-- ==== Sys2Proof/Word.lean ====
section
/-! DEFINITION. The widths the spec gives the values of the block (spec/00_scope.md R6, R7; spec/30_encoding.md R60,
R61). Every bit vector below is something the spec slices, shifts, wraps or sends as bits; counts, indices and the exact
integers of the derivations are `Nat` or `Int`. -/

namespace Sys2Proof

/-- A raw word, a seed, the operand `A`, the result `R`, one entry of `ZROM` or of `P`: 64 bits (R6 `WORD`, R40). -/
abbrev Word := BitVec 64

/-- One item of `BOUT` or `DIN`: a byte (R40). -/
abbrev Byte := BitVec 8

/-- The command word `CW`, 72 bits: `op` in bits 71:64, `A` in bits 63:0 (R60). -/
abbrev CommandWord := BitVec 72

/-- The response word `RSP`, 68 bits: `ST` in bits 67:64, `R` in bits 63:0 (R61). -/
abbrev ResponseWord := BitVec 68

/-- The engine state `S`, 128 bits, `S_hi = S[127:64]`, `S_lo = S[63:0]` (R21). -/
abbrev Engine := BitVec 128

end Sys2Proof
end

