-- ==== Sys2Proof/Machine/Bits.lean ====
section
/-! DEFINITION. Bits, slices, rotation and byte order (spec/00_scope.md R7, R8; spec/20_memory.md R41). -/

namespace Sys2Proof.Machine

/-- `v[hi:lo]`, the unsigned integer made of bits hi down to lo (R7). -/
def slice {w : Nat} (v : BitVec w) (hi lo : Nat) : Nat := (v.extractLsb' lo (hi + 1 - lo)).toNat

/-- `rotr64(x, k)` for `0 <= k <= 63` (R8). -/
def rotr64 (x : Word) (k : Nat) : Word :=
  if k = 0 then x else x >>> k ||| x <<< (64 - k)

/-- `v[8k+7 : 8k]`, byte k of v, the least significant byte being byte 0 (R41). -/
def byteAt {w : Nat} (v : BitVec w) (k : Nat) : Byte := v.extractLsb' (8 * k) 8

/-- The first `n` bytes of v, least significant byte first (R41). -/
def leBytes {w : Nat} (n : Nat) (v : BitVec w) : List Byte := (List.range n).map (byteAt v)

/-- The integer whose little-endian bytes are given: the sum over k of byte k times `2^(8k)` (R184). -/
def leValue : List Byte → Nat
  | [] => 0
  | b :: bs => b.toNat + 256 * leValue bs

/-- A 64-bit result from an integer, zero-extended (R64). -/
def word (n : Nat) : Word := BitVec.ofNat 64 n

end Sys2Proof.Machine
end

