-- ==== Sys2Proof/Config.lean ====
section
/-! DEFINITION. The numbers that R6 of spec/00_scope.md fixes or gives as a default. The OPEN parameters are arguments of
the model: `Parameters` of Machine/Parameters.lean gathers them. -/

namespace Sys2Proof

/-- The default of `PERM_MAX`, the capacity of the scratch RAM in entries (R6, R46, R167). Log entry 2. -/
def Config.permMax : Nat := 65536

/-- `SNAP_LEN`, the length of a snapshot in bytes (R6, R181). -/
def Config.snapLen : Nat := 25

/-- `SNAP_VER`, the only version tag that a block with the default `STEP` emits or accepts (R6, R188). -/
def Config.snapVer : Byte := 0x01#8

/-- How many iterations a rejection loop is followed for. The hardware has no cap (R6 `LOOP_CAP`, R238); this number is
no cap either: a loop's whole state is at most `S` and one of three phases, fewer than `2^130` values, so a loop that has
not ended after `2^130` iterations has met the same state twice and never ends. Log entry 3. -/
def Config.loopBound : Nat := 2 ^ 130

end Sys2Proof
end

