-- ==== Sys2Proof/Syntax.lean ====
section
/-! DEFINITION. The instructions: the 21 commands of spec/opcode_table.json (spec/30_encoding.md R62), one constructor
each. Every command has the one operand `A` (R60), kept whole: a command that ignores part of `A` ignores it in its
meaning (R63), so that no bit of a command word is lost between the word and the instruction. -/

namespace Sys2Proof

/-- One command of the block, with its operand `A`. -/
inductive Instr where
  /-- `SEED` (0x01, R81): reseed: `a` is the seed. -/
  | seed (a : Word)
  /-- `U64` (0x02, R85): one raw word: `a` is ignored. -/
  | u64 (a : Word)
  /-- `U32` (0x03, R91): a 32-bit value: `a` is ignored. -/
  | u32 (a : Word)
  /-- `I63` (0x04, R92): a 63-bit value: `a` is ignored. -/
  | i63 (a : Word)
  /-- `I31` (0x05, R93): a 31-bit value: `a` is ignored. -/
  | i31 (a : Word)
  /-- `INT` (0x06, R94): a platform integer: `a` is ignored. -/
  | int (a : Word)
  /-- `U64N` (0x10, R103): a value below the unsigned 64-bit bound `a`. -/
  | u64n (a : Word)
  /-- `I63N` (0x11, R104): a value below the signed 64-bit bound `a`. -/
  | i63n (a : Word)
  /-- `U32N` (0x12, R105): a value below the unsigned 32-bit bound `a[31:0]`. -/
  | u32n (a : Word)
  /-- `I31N` (0x13, R106): a value below the signed 32-bit bound `a[31:0]`. -/
  | i31n (a : Word)
  /-- `INTN` (0x14, R107): a value below the platform-integer bound `a`. -/
  | intn (a : Word)
  /-- `F64` (0x20, R116): a uniform binary64 in [0, 1): `a` is ignored. -/
  | f64 (a : Word)
  /-- `F32` (0x21, R117): a uniform binary32 in [0, 1): `a` is ignored. -/
  | f32 (a : Word)
  /-- `NORM` (0x28, R130): a standard-normal deviate: `a` is ignored. -/
  | norm (a : Word)
  /-- `EXP` (0x29, R135): a standard-exponential deviate: `a` is ignored. -/
  | exp (a : Word)
  /-- `ZROM` (0x2A, R43): one table-ROM entry: `a` is the index. -/
  | zrom (a : Word)
  /-- `PERM` (0x30, R161): a permutation on `VOUT`: `a` is the signed size. -/
  | perm (a : Word)
  /-- `SHUF` (0x31, R162): swap requests on `SWP`: `a` is the signed size. -/
  | shuf (a : Word)
  /-- `READ` (0x38, R171): bytes on `BOUT`: `a` is the signed length. -/
  | read (a : Word)
  /-- `MARSHAL` (0x40, R182): the snapshot on `BOUT`: `a` is ignored. -/
  | marshal (a : Word)
  /-- `UNMARSHAL` (0x41, R184): restore from `DIN`: `a` is the payload length. -/
  | unmarshal (a : Word)
deriving DecidableEq, Repr

/-- The operand `A` of a command (R60). -/
def Instr.operand : Instr → Word
  | .seed a => a
  | .u64 a => a
  | .u32 a => a
  | .i63 a => a
  | .i31 a => a
  | .int a => a
  | .u64n a => a
  | .i63n a => a
  | .u32n a => a
  | .i31n a => a
  | .intn a => a
  | .f64 a => a
  | .f32 a => a
  | .norm a => a
  | .exp a => a
  | .zrom a => a
  | .perm a => a
  | .shuf a => a
  | .read a => a
  | .marshal a => a
  | .unmarshal a => a

/-- What a host sends for one command: the command, and the bytes it puts on `DIN` with it (R66, R68, R241). -/
structure Transaction where
  /-- the command -/
  instr : Instr
  /-- the bytes put on `DIN`, byte 0 first -/
  payload : List Byte
deriving DecidableEq, Repr

end Sys2Proof
end

