-- ==== Sys2Proof/WellFormed.lean ====
section
/-! DEFINITION. Which instructions and transactions are well formed. A legal command has no reserved field: the ignored
parts of `A` are "ignored, not required to be zero" (spec/30_encoding.md R65), so EVERY term of `Instr` is a well-formed
instruction and `Instr.WellFormed` has nothing to refuse. What a host can get wrong is the transaction: the payload of an
`UNMARSHAL` and nothing else goes on `DIN` (spec/70_reset_and_hazards.md R241). -/

namespace Sys2Proof

/-- Every command with every operand is well formed (R63, R65): there is no check to make. -/
def Instr.WellFormed (_ : Instr) : Prop := True

/-- A host's transaction obeys R241: "exactly L = `A` bytes on `DIN` for an `UNMARSHAL`, and nothing on `DIN` for any
other command". -/
def Transaction.wellFormed (t : Transaction) : Bool :=
  match t.instr with
  | .unmarshal a => t.payload.length == a.toNat
  | .seed _ => t.payload.isEmpty
  | .u64 _ => t.payload.isEmpty
  | .u32 _ => t.payload.isEmpty
  | .i63 _ => t.payload.isEmpty
  | .i31 _ => t.payload.isEmpty
  | .int _ => t.payload.isEmpty
  | .u64n _ => t.payload.isEmpty
  | .i63n _ => t.payload.isEmpty
  | .u32n _ => t.payload.isEmpty
  | .i31n _ => t.payload.isEmpty
  | .intn _ => t.payload.isEmpty
  | .f64 _ => t.payload.isEmpty
  | .f32 _ => t.payload.isEmpty
  | .norm _ => t.payload.isEmpty
  | .exp _ => t.payload.isEmpty
  | .zrom _ => t.payload.isEmpty
  | .perm _ => t.payload.isEmpty
  | .shuf _ => t.payload.isEmpty
  | .read _ => t.payload.isEmpty
  | .marshal _ => t.payload.isEmpty

/-- The form in which a host should write a command: `A` is 0 where it is ignored ("Hosts should send 0", R63) and its
upper half is 0 where only `A[31:0]` is read (R68). Advice to hosts, not a condition of decoding. -/
def Instr.canonical (i : Instr) : Bool :=
  match i with
  | .seed _ => true
  | .u64 a => a == 0#64
  | .u32 a => a == 0#64
  | .i63 a => a == 0#64
  | .i31 a => a == 0#64
  | .int a => a == 0#64
  | .u64n _ => true
  | .i63n _ => true
  | .u32n a => a >>> 32 == 0#64
  | .i31n a => a >>> 32 == 0#64
  | .intn _ => true
  | .f64 a => a == 0#64
  | .f32 a => a == 0#64
  | .norm a => a == 0#64
  | .exp a => a == 0#64
  | .zrom _ => true
  | .perm _ => true
  | .shuf _ => true
  | .read _ => true
  | .marshal a => a == 0#64
  | .unmarshal _ => true

end Sys2Proof
end

