-- ==== Sys2Proof/Decode.lean ====
section
/-! DEFINITION. From a command word to an instruction and back (spec/30_encoding.md R60, R62, R65). The decoder matches
all 8 bits of `op` and nothing else; the operand is the 64 bits of `A` as they stand (R63). -/

namespace Sys2Proof

/-- Why a command word is no instruction: its opcode is none of the 21 of R62 (R65). -/
inductive DecodeError where
  /-- the opcode is not in the opcode map; the block answers `IllegalCommand` (R205) -/
  | illegalCommand (op : BitVec 8)
deriving DecidableEq, Repr

/-- `op`, bits 71:64 of the command word (R60). -/
def CommandWord.op (w : CommandWord) : BitVec 8 := w.extractLsb' 64 8

/-- `A`, bits 63:0 of the command word (R60). -/
def CommandWord.operandBits (w : CommandWord) : Word := w.extractLsb' 0 64

/-- The opcode map of R62: the instruction an opcode and an operand stand for, if the opcode is legal. -/
def ofOpcode (op : BitVec 8) (a : Word) : Option Instr :=
  match op.toNat with
  | 0x01 => some (.seed a)
  | 0x02 => some (.u64 a)
  | 0x03 => some (.u32 a)
  | 0x04 => some (.i63 a)
  | 0x05 => some (.i31 a)
  | 0x06 => some (.int a)
  | 0x10 => some (.u64n a)
  | 0x11 => some (.i63n a)
  | 0x12 => some (.u32n a)
  | 0x13 => some (.i31n a)
  | 0x14 => some (.intn a)
  | 0x20 => some (.f64 a)
  | 0x21 => some (.f32 a)
  | 0x28 => some (.norm a)
  | 0x29 => some (.exp a)
  | 0x2A => some (.zrom a)
  | 0x30 => some (.perm a)
  | 0x31 => some (.shuf a)
  | 0x38 => some (.read a)
  | 0x40 => some (.marshal a)
  | 0x41 => some (.unmarshal a)
  | _ => none

/-- Decode a command word (R62, R67 step 1): total on all 72-bit words, and a word with an unlisted opcode is rejected by
name. -/
def decode (w : CommandWord) : Except DecodeError Instr :=
  match ofOpcode w.op w.operandBits with
  | some i => .ok i
  | none => .error (.illegalCommand w.op)

/-- The opcode of a command (R62). -/
def Instr.opcode : Instr → BitVec 8
  | .seed _ => 0x01#8
  | .u64 _ => 0x02#8
  | .u32 _ => 0x03#8
  | .i63 _ => 0x04#8
  | .i31 _ => 0x05#8
  | .int _ => 0x06#8
  | .u64n _ => 0x10#8
  | .i63n _ => 0x11#8
  | .u32n _ => 0x12#8
  | .i31n _ => 0x13#8
  | .intn _ => 0x14#8
  | .f64 _ => 0x20#8
  | .f32 _ => 0x21#8
  | .norm _ => 0x28#8
  | .exp _ => 0x29#8
  | .zrom _ => 0x2A#8
  | .perm _ => 0x30#8
  | .shuf _ => 0x31#8
  | .read _ => 0x38#8
  | .marshal _ => 0x40#8
  | .unmarshal _ => 0x41#8

/-- Encode a command as its command word `CW` = `op`, `A` (R60). -/
def encode (i : Instr) : CommandWord := i.opcode ++ i.operand

/-- The instruction the decoder reads from the `nbits` bits `w`, numbered as spec/opcode_table.json numbers them: bit 0 is
the least significant bit of `CW`. Bits at `nbits` and above are 0. -/
def decodeTableWord (nbits w : Nat) : Option Instr :=
  match decode (BitVec.ofNat 72 (w % 2 ^ nbits)) with
  | .ok i => some i
  | .error _ => none

end Sys2Proof
end

