-- ==== Sys2Proof/Machine/State.lean ====
section
/-! DEFINITION. The state of one instance of the block, the ways a step can stop, and the state right after a hardware
reset (spec/10_state.md R20 to R33, spec/20_memory.md R40 to R47, spec/60_exceptions.md R201).

The spec's architectural state is `S`, `RDV`, `RDC`, `SEEDED` (R20). State also holds what the block has beside it: the
scratch RAM `P` (R46, whose contents no command can observe) and the channels between block and host: the commands
presented, the bytes waiting on `DIN`, and everything the block has sent (R47, R236, R237). -/

namespace Sys2Proof.Machine

/-- The status of a response, `ST` (R201). The codes 8 to 15 are never returned, so there is no constructor for them. -/
inductive Status where
  /-- 0: the command was performed -/
  | ok
  /-- 1: bound `n <= 0` given to a bounded sampler (R202) -/
  | domainError
  /-- 2: negative size given to `PERM`, `SHUF` or `READ` (R203) -/
  | invalidArgument
  /-- 3: malformed or wrong-version snapshot given to `UNMARSHAL` (R204) -/
  | formatError
  /-- 4: opcode not in the opcode map (R205) -/
  | illegalCommand
  /-- 5: state-reading command while `SEEDED = 0` (R206) -/
  | notSeeded
  /-- 6: size above `PERM_MAX` given to `PERM` (R207) -/
  | capacityError
  /-- 7: unmapped table-ROM index given to `ZROM` (R208) -/
  | addressError
deriving DecidableEq, Repr

/-- A response: its status and its result (R61). -/
structure Response where
  /-- `ST` -/
  st : Status
  /-- `R` -/
  r : Word
deriving DecidableEq, Repr

/-- One thing the block sends to the host (R40, R47, R61). -/
inductive OutItem where
  /-- a byte on `BOUT` -/
  | bout (b : Byte)
  /-- a value on `VOUT` -/
  | vout (v : Word)
  /-- a pair of indices on `SWP` -/
  | swp (i j : Word)
  /-- a response on the response channel -/
  | rsp (x : Response)
deriving DecidableEq, Repr

/-- How the machine can stop with a fault. The block itself never faults: every error of a command is a response (R200,
R211). Both constructors guard the scratch RAM and no command reaches either (R44, R46). -/
inductive Fault where
  /-- raised by `memRead` and `memWrite`: entry `i` of `P` is not below the capacity `PERM_MAX`, and so does not exist
  (R40, R44). Safe: the model stops where the hardware has no entry. -/
  | scratchRange (i : Nat)
  /-- raised by `memRead`: entry `i` of `P` was never written, so its value is unspecified (R46). Safe: the model stops
  where the spec gives no value. -/
  | scratchUnwritten (i : Nat)
deriving DecidableEq, Repr

/-- How the machine can refuse a step. -/
inductive Refusal where
  /-- raised by an arm of `exec` whose instruction has no meaning yet; no arm of this model does. Safe. -/
  | notModelled (mnemonic : String)
  /-- raised by the commands with a rejection loop (`U64N`, `I63N`, `U32N`, `I31N`, `INTN`, `NORM`, `EXP`, `PERM`,
  `SHUF`) on a state from which the loop never ends, so that the hardware never responds (R238). Safe: such a command has
  no outcome. Log entry 3. -/
  | loopNeverEnds
deriving DecidableEq, Repr

/-- The state of one instance of the block. -/
structure State where
  /-- engine state, 128 bits (R21) -/
  S : Engine
  /-- leftover bytes, right-aligned, next byte in bits 7:0 (R22) -/
  RDV : Word
  /-- how many bytes `RDV` holds, 0 to 7 (R22) -/
  RDC : BitVec 3
  /-- set once the instance has been seeded or restored (R23) -/
  SEEDED : Bool
  /-- the scratch RAM `P`: its written entries, by strictly rising index (R46) -/
  P : List (Nat × Word)
  /-- the command words presented and not yet responded to; the first is the one the block performs next (R236) -/
  CMD : List CommandWord
  /-- the bytes waiting on `DIN`, next byte first (R47) -/
  DIN : List Byte
  /-- everything the block has sent and the host has not taken, in the order sent (R47) -/
  OUT : List OutItem
deriving DecidableEq, Repr

/-- The machine right after hardware reset (R32, R230): not seeded, all channels empty. The spec gives `S`, `RDV`, `RDC`
and `P` no value there ("unspecified; unreadable while `SEEDED = 0`"); the model names 0 for the three registers and
lists no entry of `P` as written. DESIGN CHOICE, log entry 1: no command can observe these values. -/
def State.reset : State :=
  { S := 0#128, RDV := 0#64, RDC := 0#3, SEEDED := false, P := [], CMD := [], DIN := [], OUT := [] }

end Sys2Proof.Machine
end

