-- ==== Sys2Proof/Machine/Ops.lean ====
section
/-! DEFINITION. The named operations over the state: field updates, the response, raising an error, the scratch RAM, and
the one combinator behind every rejection loop. A meaning is written over these. -/

namespace Sys2Proof.Machine

/-! ## Field updates -/

/-- `S <- v` (R21). -/
def State.setS (s : State) (v : Engine) : State := { s with S := v }

/-- `RDV <- v`, `RDC <- c` (R22). -/
def State.setLeftover (s : State) (v : Word) (c : BitVec 3) : State := { s with RDV := v, RDC := c }

/-- Leave `p` in the scratch RAM (R46). -/
def State.setP (s : State) (p : List (Nat × Word)) : State := { s with P := p }

/-- `take DIN()`, `n` times (R11, R66). -/
def State.dropDin (s : State) (n : Nat) : State := { s with DIN := s.DIN.drop n }

/-- Emit items on the output streams, in order (R11, R47). -/
def State.emit (s : State) (items : List OutItem) : State := { s with OUT := s.OUT ++ items }

/-! ## Responses and errors -/

/-- The numeric code of a status, the field `ST` (R201). -/
def Status.code : Status → BitVec 4
  | .ok => 0#4
  | .domainError => 1#4
  | .invalidArgument => 2#4
  | .formatError => 3#4
  | .illegalCommand => 4#4
  | .notSeeded => 5#4
  | .capacityError => 6#4
  | .addressError => 7#4

/-- The response word `RSP`: `ST` in bits 67:64, `R` in bits 63:0 (R61). -/
def Response.bits (x : Response) : ResponseWord := x.st.code ++ x.r

/-- Answer the command in flight and be done with it: its response follows whatever it emitted, and the next command
presented is looked at only after it (R47, R61, R236). -/
def State.respond (s : State) (st : Status) (r : Word) : State :=
  { s with OUT := s.OUT ++ [.rsp ⟨st, r⟩], CMD := s.CMD.tail }

/-- The command ends with `ST = OK` and the result `r`. -/
def complete (r : Word) (s : State) : Host.Outcome State Fault Refusal := .next (s.respond .ok r)

/-- TAKING AN ERROR, the block's one kind of exception (R12, R211): the response is the error's code with `R = 0`, and
nothing else changes. There is no handler and nothing to return from (R212): the next command is performed as ever. -/
def raise (e : Status) (s : State) : Host.Outcome State Fault Refusal := .next (s.respond e 0#64)

/-! ## Why a command may have no next state -/

/-- Why a command's run has no result. -/
inductive Stop where
  /-- an access to the scratch RAM failed -/
  | fault (f : Fault)
  /-- a rejection loop never ends (R238) -/
  | never
deriving DecidableEq, Repr

/-- The outcome of a command from the result of its run. -/
def finish (run : Except Stop State) : Host.Outcome State Fault Refusal :=
  match run with
  | .ok t => .next t
  | .error (.fault f) => .fault f
  | .error .never => .refused .loopNeverEnds

/-! ## Rejection loops -/

/-- What one iteration of a rejection loop decides. -/
inductive Iter (α σ : Type) where
  /-- accept: the loop ends with `a`, leaving `s` -/
  | done (a : α) (s : σ)
  /-- reject: go on from `s` -/
  | again (s : σ)
deriving DecidableEq, Repr

/-- Run a loop for at most `n` iterations; `none` if it has not ended by then. -/
def runLoop {α σ : Type} (body : σ → Iter α σ) : Nat → σ → Option (α × σ)
  | 0, _ => none
  | n + 1, s =>
    match body s with
    | .done a s' => some (a, s')
    | .again s' => runLoop body n s'

/-! ## The scratch RAM `P`

`P` is a list of written entries (index, 64-bit value) by strictly rising index. An entry not listed was never written
and has no value. -/

/-- Write entry `i` of a list of entries, keeping the indices strictly rising. -/
def scratchInsert (i : Nat) (v : Word) : List (Nat × Word) → List (Nat × Word)
  | [] => [(i, v)]
  | (k, x) :: rest =>
    if i < k then (i, v) :: (k, x) :: rest
    else if i = k then (i, v) :: rest
    else (k, x) :: scratchInsert i v rest

/-- The value of entry `i`, if it was written. -/
def scratchLookup (i : Nat) : List (Nat × Word) → Option Word
  | [] => none
  | (k, x) :: rest => if i = k then some x else scratchLookup i rest

/-- `MemRead(P, i)` in a RAM of `cap` entries (R11, R44, R46). -/
def memRead (cap : Nat) (p : List (Nat × Word)) (i : Nat) : Except Fault Word :=
  if i < cap then
    match scratchLookup i p with
    | some v => .ok v
    | none => .error (.scratchUnwritten i)
  else .error (.scratchRange i)

/-- `MemWrite(P, i, v)` in a RAM of `cap` entries (R11, R44, R46). -/
def memWrite (cap : Nat) (p : List (Nat × Word)) (i : Nat) (v : Word) : Except Fault (List (Nat × Word)) :=
  if i < cap then .ok (scratchInsert i v p) else .error (.scratchRange i)

/-- The canonical form of the scratch RAM: indices strictly rising and below the capacity. Equal RAMs are equal lists. -/
def scratchWf (cap : Nat) : List (Nat × Word) → Bool
  | [] => true
  | [(i, _)] => decide (i < cap)
  | (i, _) :: (k, x) :: rest => decide (i < k) && scratchWf cap ((k, x) :: rest)

end Sys2Proof.Machine
end

