-- ==== Sys2Proof/Machine/Flags.lean ====
section
/-! DEFINITION. The block's only flag, `SEEDED` (spec/10_state.md R23, R27): who sets it and who needs it. There are no
carry, zero, sign, overflow, error or floating-point flags (R27). -/

namespace Sys2Proof.Machine

/-- `SEEDED <- 1`, by `SEED` and a successful `UNMARSHAL` only (R23). -/
def State.markSeeded (s : State) : State := { s with SEEDED := true }

/-- `if SEEDED = 0: raise NotSeeded`, the first check of every state-reading command (R67 step 2, R206). -/
def withSeed (s : State) (k : Host.Outcome State Fault Refusal) : Host.Outcome State Fault Refusal :=
  if s.SEEDED then k else raise .notSeeded s

end Sys2Proof.Machine
end

