-- ==== Sys2Proof/Machine/EngineFunction.lean ====
section
/-! DEFINITION. The engine function `STEP` (spec/40_core_engine.md R82, R83): an OPEN parameter of the block, here in its
default instance. The units above the engine take their words from any source of words. -/

namespace Sys2Proof.Machine

/-- `PCG_MUL` (R83). -/
def pcgMul : Engine := 0x2360ED051FC65DA44385DF649FCCF645#128

/-- `PCG_INC` (R83). -/
def pcgInc : Engine := 0x5851F42D4C957F2D14057B7EF767814F#128

/-- The advance of a draw: `(S * PCG_MUL + PCG_INC) mod 2^128` (R82). The constants stand first: with an unknown `S` Lean's
kernel then stops at `S` and does not count up to `PCG_INC`. -/
def advance (s : Engine) : Engine := pcgInc + pcgMul * s

/-- The output of a draw from the state after the advance: `rotr64(S_hi ^ S_lo, S_hi[63:58])` (R82). -/
def output (s : Engine) : Word :=
  rotr64 (s.extractLsb' 64 64 ^^^ s.extractLsb' 0 64) (slice s 127 122)

/-- Where raw words come from: a function that gives the next word and the source after it. -/
abbrev Source (σ : Type) := σ → Word × σ

/-- `NextWord()` of the default engine: advance first, then output from the new state (R82). -/
def nextWord : Source Engine := fun s => (output (advance s), advance s)

end Sys2Proof.Machine
end

