-- ==== Sys2Proof/Machine/FloatArith.lean ====
section
/-! DEFINITION. IEEE-754 binary64 arithmetic on bit patterns (spec/00_scope.md R13): every operation computes the exact
result and rounds it once, to nearest with ties to even. Finite values are exact integers in units of `2^-1074`, the
smallest positive binary64, so that a sum, a product or a quotient is an exact ratio of integers before the one
rounding. -/

namespace Sys2Proof.Machine

/-- `0.0`, `1.0`, `-0.5`, the infinities and the one NaN the operators make (R13; the NaN's payload is PRESUMED, log
entry 5, and no command makes one). -/
def f64One : Word := 0x3FF0000000000000#64
/-- `-0.5`. -/
def f64NegHalf : Word := 0xBFE0000000000000#64
/-- `+inf`. -/
def f64Inf : Word := 0x7FF0000000000000#64
/-- `-inf`. -/
def f64NegInf : Word := 0xFFF0000000000000#64
/-- A quiet NaN. -/
def f64NaN : Word := 0x7FF8000000000000#64

/-- The sign, bit 63 (R13). -/
def f64Sign (x : Word) : Bool := x.getLsbD 63

/-- The biased exponent, bits 62:52 (R13). -/
def f64Exp (x : Word) : Nat := slice x 62 52

/-- The fraction, bits 51:0 (R13). -/
def f64Frac (x : Word) : Nat := slice x 51 0

/-- A NaN: exponent all ones, fraction not zero. -/
def f64IsNaN (x : Word) : Bool := f64Exp x == 2047 && f64Frac x != 0

/-- An infinity: exponent all ones, fraction zero. -/
def f64IsInf (x : Word) : Bool := f64Exp x == 2047 && f64Frac x == 0

/-- A finite value: exponent not all ones. -/
def f64IsFinite (x : Word) : Bool := f64Exp x != 2047

/-- The magnitude of a finite value in units of `2^-1074`. -/
def f64Units (x : Word) : Nat :=
  if f64Exp x = 0 then f64Frac x else (2 ^ 52 + f64Frac x) * 2 ^ (f64Exp x - 1)

/-- A finite value in units of `2^-1074`. -/
def f64Value (x : Word) : Int := if f64Sign x then -(f64Units x : Int) else (f64Units x : Int)

/-- The integer nearest to n/d, ties to even (d > 0). -/
def roundNat (n d : Nat) : Nat :=
  if 2 * (n % d) < d ∨ (2 * (n % d) = d ∧ n / d % 2 = 0) then n / d else n / d + 1

/-- The magnitude bits (62:0) of the binary64 nearest to n/d units of `2^-1074`, ties to even; `+inf` on overflow
(d > 0). With `e` the exponent of the last place above that unit, the rounded significand `m` carries the implicit one in
bit 52, so `e * 2^52 + m` is the pattern, whether subnormal, normal, or rounded up into the next binade. -/
def roundUnits (n d : Nat) : Nat :=
  min ((Nat.log2 (n / d) - 52) * 2 ^ 52 + roundNat n (d * 2 ^ (Nat.log2 (n / d) - 52))) (2047 * 2 ^ 52)

/-- A pattern from its sign and its magnitude bits. -/
def f64Pack (neg : Bool) (mag : Nat) : Word := BitVec.ofNat 64 ((if neg then 2 ^ 63 else 0) + mag)

/-- `fneg`: flip the sign bit (R13). -/
def fneg (x : Word) : Word := x ^^^ 0x8000000000000000#64

/-- `fadd` (R13). An exact sum of zero is `+0` unless both operands are `-0`. -/
def fadd (x y : Word) : Word :=
  if f64IsNaN x || f64IsNaN y then f64NaN
  else if f64IsInf x then
    (if f64IsInf y && f64Sign x != f64Sign y then f64NaN else x)
  else if f64IsInf y then y
  else if f64Value x + f64Value y = 0 then f64Pack (f64Sign x && f64Sign y) 0
  else f64Pack (decide (f64Value x + f64Value y < 0)) (roundUnits (f64Value x + f64Value y).natAbs 1)

/-- `fsub`: the sum with the negated operand (R13). -/
def fsub (x y : Word) : Word := fadd x (fneg y)

/-- `fmul` (R13). -/
def fmul (x y : Word) : Word :=
  if f64IsNaN x || f64IsNaN y then f64NaN
  else if f64IsInf x || f64IsInf y then
    (if (f64IsFinite x && f64Units x == 0) || (f64IsFinite y && f64Units y == 0) then f64NaN
     else f64Pack (f64Sign x != f64Sign y) (2047 * 2 ^ 52))
  else f64Pack (f64Sign x != f64Sign y) (roundUnits (f64Units x * f64Units y) (2 ^ 1074))

/-- `fdiv` (R13). -/
def fdiv (x y : Word) : Word :=
  if f64IsNaN x || f64IsNaN y then f64NaN
  else if f64IsInf x then
    (if f64IsInf y then f64NaN else f64Pack (f64Sign x != f64Sign y) (2047 * 2 ^ 52))
  else if f64IsInf y then f64Pack (f64Sign x != f64Sign y) 0
  else if f64Units y = 0 then
    (if f64Units x = 0 then f64NaN else f64Pack (f64Sign x != f64Sign y) (2047 * 2 ^ 52))
  else f64Pack (f64Sign x != f64Sign y) (roundUnits (f64Units x * 2 ^ 1074) (f64Units y))

/-- The place of a value that is no NaN in the order of the extended reals: the magnitude bits, negated for a negative
value, so that the two zeros are equal. -/
def f64Rank (x : Word) : Int := if f64Sign x then -(slice x 62 0 : Int) else (slice x 62 0 : Int)

/-- `flt(a, b)`: a < b, false if either is a NaN (R13). -/
def flt (x y : Word) : Bool := !f64IsNaN x && !f64IsNaN y && decide (f64Rank x < f64Rank y)

/-- `fle(a, b)`: a <= b, false if either is a NaN (R13). -/
def fle (x y : Word) : Bool := !f64IsNaN x && !f64IsNaN y && decide (f64Rank x ≤ f64Rank y)

/-- `cvt_u64_f64(j)`: the nearest binary64, ties to even (R13). -/
def cvtU64F64 (j : Nat) : Word := f64Pack false (roundUnits (j * 2 ^ 1074) 1)

end Sys2Proof.Machine
end

