-- ==== Sys2Proof/Machine/Transcendental.lean ====
section
/-! DEFINITION. `EXP64` and `LN64` (spec/00_scope.md R14): OPEN parameters of the block, here in their default instance,
the correctly rounded functions. Each is computed as an enclosure of the exact real value by two integers over `2^p`; when
both ends round to the same binary64, that is the correctly rounded value. If they do not, the precision is raised. Log
entry 4 says what this rests on. The sampler takes the two functions as an argument (`Transcendentals`). -/

namespace Sys2Proof.Machine

/-- The two OPEN function parameters of R14. -/
structure Transcendentals where
  /-- `EXP64` -/
  exp64 : Word → Word
  /-- `LN64` -/
  ln64 : Word → Word

/-- The working precisions tried in turn, in fraction bits. -/
def precisions : List Nat := [160, 320, 640, 1280, 2560]

/-- Try the precisions in turn until both ends of the enclosure round to the same value. -/
def firstAgreement (f : Nat → Word × Word) : List Nat → Word
  | [] => (f 5120).1
  | p :: ps => if (f p).1 = (f p).2 then (f p).1 else firstAgreement f ps

/-! ## The exponential -/

/-- A lower bound over `2^p` of the terms k, k+1, ... (n of them) of the exponential series of `y / 2^p`, where `t` is a
lower bound of term k. -/
def expSeriesLo (p y : Nat) : Nat → Nat → Nat → Nat
  | 0, _, _ => 0
  | n + 1, k, t => t + expSeriesLo p y n (k + 1) (t * y / ((k + 1) * 2 ^ p))

/-- An upper bound over `2^p` of ALL the terms from k on, for `y / 2^p <= 1/2`: n of them one by one, and the rest by
twice the first of them. -/
def expSeriesHi (p y : Nat) : Nat → Nat → Nat → Nat
  | 0, _, t => 2 * t
  | n + 1, k, t => t + expSeriesHi p y n (k + 1) (t * y / ((k + 1) * 2 ^ p) + 1)

/-- Square a lower bound over `2^p`, n times. -/
def squareLo (p : Nat) : Nat → Nat → Nat
  | 0, v => v
  | n + 1, v => squareLo p n (v * v / 2 ^ p)

/-- Square an upper bound over `2^p`, n times. -/
def squareHi (p : Nat) : Nat → Nat → Nat
  | 0, v => v
  | n + 1, v => squareHi p n (v * v / 2 ^ p + 1)

/-- An enclosure over `2^p` of `e^t`, `t = u / 2^1074`, `0 <= t < 746`: the series at `t / 2^16`, squared 16 times. -/
def expBounds (p u : Nat) : Nat × Nat :=
  (squareLo p 16 (expSeriesLo p (u * 2 ^ p / 2 ^ 1090) (p / 6 + 8) 0 (2 ^ p)),
   squareHi p 16 (expSeriesHi p (u * 2 ^ p / 2 ^ 1090 + 1) (p / 6 + 8) 0 (2 ^ p)))

/-- The two ends of the enclosure of `e^x`, rounded; `x` has magnitude `u` units and the given sign. -/
def expEnds (neg : Bool) (u p : Nat) : Word × Word :=
  if neg then
    (f64Pack false (roundUnits (2 ^ p * 2 ^ 1074) (expBounds p u).2),
     f64Pack false (roundUnits (2 ^ p * 2 ^ 1074) (expBounds p u).1))
  else
    (f64Pack false (roundUnits ((expBounds p u).1 * 2 ^ 1074) (2 ^ p)),
     f64Pack false (roundUnits ((expBounds p u).2 * 2 ^ 1074) (2 ^ p)))

/-- The default `EXP64` (R14): the exact exponential of a finite operand, rounded once; a magnitude of 746 or more
underflows to `+0` or overflows. `EXP64(-inf) = +0` is in section 6.5 of spec/95_test_vectors.md. The spec states no result
for `+inf` and for a NaN: `EXP64(+inf) = +inf` and a NaN for a NaN are the model's choice (log entry 5). -/
def exp64 (x : Word) : Word :=
  if f64IsNaN x then f64NaN
  else if f64IsInf x then (if f64Sign x then 0#64 else f64Inf)
  else if f64Units x = 0 then f64One
  else if 746 * 2 ^ 1074 ≤ f64Units x then (if f64Sign x then 0#64 else f64Inf)
  else firstAgreement (expEnds (f64Sign x) (f64Units x)) precisions

/-! ## The natural logarithm -/

/-- A lower bound over `2^p` of n terms of the series `artanh z = z + z^3/3 + ...` from `z^(2k+1)/(2k+1)` on, where `t`
bounds `z^(2k+1)` and `q` bounds `z^2` from below. -/
def artanhLo (p q : Nat) : Nat → Nat → Nat → Nat
  | 0, _, _ => 0
  | n + 1, k, t => t / (2 * k + 1) + artanhLo p q n (k + 1) (t * q / 2 ^ p)

/-- An upper bound over `2^p` of ALL the terms from `z^(2k+1)/(2k+1)` on, for `z^2 <= 1/2`: n of them one by one, and the
rest by twice the power. -/
def artanhHi (p q : Nat) : Nat → Nat → Nat → Nat
  | 0, _, t => 2 * t
  | n + 1, k, t => t / (2 * k + 1) + 1 + artanhHi p q n (k + 1) (t * q / 2 ^ p + 1)

/-- An enclosure over `2^p` of `2 * artanh(a / b)`, `0 <= a / b <= 1/3`. -/
def twiceArtanh (p a b : Nat) : Nat × Nat :=
  (2 * artanhLo p ((a * 2 ^ p / b) * (a * 2 ^ p / b) / 2 ^ p) (p / 3 + 4) 0 (a * 2 ^ p / b),
   2 * artanhHi p ((a * 2 ^ p / b + 1) * (a * 2 ^ p / b + 1) / 2 ^ p + 1) (p / 3 + 4) 0 (a * 2 ^ p / b + 1))

/-- An enclosure over `2^p` of `ln x`, `x` of u > 0 units: with `u = m * 2^l`, `1 <= m < 2`, it is
`2 * artanh((m-1)/(m+1)) + (l - 1074) * ln 2`, and `ln 2 = 2 * artanh(1/3)`. -/
def lnBounds (p u : Nat) : Int × Int :=
  if 1074 ≤ Nat.log2 u then
    (((twiceArtanh p (u - 2 ^ Nat.log2 u) (u + 2 ^ Nat.log2 u)).1 : Int) +
        ((Nat.log2 u - 1074 : Nat) : Int) * ((twiceArtanh p 1 3).1 : Int),
     ((twiceArtanh p (u - 2 ^ Nat.log2 u) (u + 2 ^ Nat.log2 u)).2 : Int) +
        ((Nat.log2 u - 1074 : Nat) : Int) * ((twiceArtanh p 1 3).2 : Int))
  else
    (((twiceArtanh p (u - 2 ^ Nat.log2 u) (u + 2 ^ Nat.log2 u)).1 : Int) -
        ((1074 - Nat.log2 u : Nat) : Int) * ((twiceArtanh p 1 3).2 : Int),
     ((twiceArtanh p (u - 2 ^ Nat.log2 u) (u + 2 ^ Nat.log2 u)).2 : Int) -
        ((1074 - Nat.log2 u : Nat) : Int) * ((twiceArtanh p 1 3).1 : Int))

/-- The binary64 nearest to `v / 2^p`. -/
def roundFixed (p : Nat) (v : Int) : Word :=
  f64Pack (decide (v < 0)) (roundUnits (v.natAbs * 2 ^ 1074) (2 ^ p))

/-- The two ends of the enclosure of `ln x`, rounded. -/
def lnEnds (u p : Nat) : Word × Word := (roundFixed p (lnBounds p u).1, roundFixed p (lnBounds p u).2)

/-- The default `LN64` (R14): the exact logarithm of a positive finite operand, rounded once, and `-inf` at `+0`. At 1 the
exact logarithm is 0 and the spec states no sign for it: `+0` is the model's choice. For any other operand the spec states
no result: `LN64(+inf) = +inf`, `LN64(-0) = -inf`, and a NaN for a NaN and below 0 are the model's choice too (log entry
5). No command asks for one of them. -/
def ln64 (x : Word) : Word :=
  if f64IsNaN x then f64NaN
  else if f64Exp x = 0 ∧ f64Frac x = 0 then f64NegInf
  else if f64Sign x then f64NaN
  else if f64IsInf x then f64Inf
  else if x = f64One then 0#64
  else firstAgreement (lnEnds (f64Units x)) precisions

/-- The default instance of the two parameters (R14): correctly rounded. -/
def defaultFunctions : Transcendentals := { exp64 := exp64, ln64 := ln64 }

end Sys2Proof.Machine
end

