-- ==== Sys2Proof/Machine/Parameters.lean ====
section
/-! DEFINITION. The OPEN parameters of the block (spec/00_scope.md R6, spec/93_implementation_defined.md U1 to U3): every
meaning that rests on one takes them as an argument. -/

namespace Sys2Proof.Machine

/-- What a builder of the block may choose (R6). Log entry 2. -/
structure Parameters where
  /-- `STEP`: a draw, from the engine state to the raw word and the engine state after it (R6, R82) -/
  step : Source Engine
  /-- `EXP64` and `LN64` (R6, R14) -/
  functions : Transcendentals
  /-- `PERM_MAX`, the entries of the scratch RAM; any number is allowed (R6, R167) -/
  permMax : Nat
  /-- the version tag that goes with this `STEP`: a block with another `STEP` must use another tag (R188) -/
  snapVer : Byte

/-- The default instance (R6, R188): the parameters of every derived vector, and of `exec` and `step`. -/
def defaultParameters : Parameters :=
  { step := nextWord, functions := defaultFunctions, permMax := Config.permMax, snapVer := Config.snapVer }

end Sys2Proof.Machine
end

