-- ==== Sys2Proof/Machine/Engine.lean ====
section
/-! DEFINITION. The core engine: the commands `SEED` and `U64` (spec/40_core_engine.md R80 to R86). Here and in the units
above, `<command>With par` is the meaning of a command in the instance of the block with the parameters `par`, and
`exec<Command>` is that meaning in the default instance. -/

namespace Sys2Proof.Machine

/-- A value drawn from the engine becomes the result of the command (R64). -/
def answerDraw (d : Nat × Engine) (s : State) : Host.Outcome State Fault Refusal :=
  complete (word d.1) (s.setS d.2)

/-- `DrawU64()`: the raw word itself (R90). -/
def drawU64 {σ : Type} (next : Source σ) (s : σ) : Nat × σ := ((next s).1.toNat, (next s).2)

/-- `SEED` (R81): `S <- {A, A}`, the leftover buffer emptied, `SEEDED <- 1`, no word drawn. -/
def execSeed (a : Word) (s : State) : Host.Outcome State Fault Refusal :=
  complete 0#64 (((s.setS (a ++ a)).setLeftover 0#64 0#3).markSeeded)

/-- `U64` (R85): one raw word; the operand is ignored. -/
def u64With (par : Parameters) (_ : Word) (s : State) : Host.Outcome State Fault Refusal :=
  withSeed s (answerDraw (drawU64 par.step s.S) s)

/-- `U64` in the default instance. -/
def execU64 (a : Word) (s : State) : Host.Outcome State Fault Refusal :=
  u64With defaultParameters a s

end Sys2Proof.Machine
end

