-- ==== Sys2Proof/Machine/IntegerDerivation.lean ====
section
/-! DEFINITION. The integer derivation layer: `U32`, `I63`, `I31`, `INT` (spec/41_integer_derivation.md R90 to R95). Each
draws one raw word and keeps a slice of it. -/

namespace Sys2Proof.Machine

/-- `DrawU32()`: `u[63:32]` (R90). -/
def drawU32 {σ : Type} (next : Source σ) (s : σ) : Nat × σ := (slice (next s).1 63 32, (next s).2)

/-- `DrawI63()`: `u[62:0]` (R90). -/
def drawI63 {σ : Type} (next : Source σ) (s : σ) : Nat × σ := (slice (next s).1 62 0, (next s).2)

/-- `DrawI31()`: `u[62:32]` (R90). -/
def drawI31 {σ : Type} (next : Source σ) (s : σ) : Nat × σ := (slice (next s).1 62 32, (next s).2)

/-- `U32` (R91). -/
def u32With (par : Parameters) (_ : Word) (s : State) : Host.Outcome State Fault Refusal :=
  withSeed s (answerDraw (drawU32 par.step s.S) s)

/-- `U32` in the default instance. -/
def execU32 (a : Word) (s : State) : Host.Outcome State Fault Refusal :=
  u32With defaultParameters a s

/-- `I63` (R92). -/
def i63With (par : Parameters) (_ : Word) (s : State) : Host.Outcome State Fault Refusal :=
  withSeed s (answerDraw (drawI63 par.step s.S) s)

/-- `I63` in the default instance. -/
def execI63 (a : Word) (s : State) : Host.Outcome State Fault Refusal :=
  i63With defaultParameters a s

/-- `I31` (R93). -/
def i31With (par : Parameters) (_ : Word) (s : State) : Host.Outcome State Fault Refusal :=
  withSeed s (answerDraw (drawI31 par.step s.S) s)

/-- `I31` in the default instance. -/
def execI31 (a : Word) (s : State) : Host.Outcome State Fault Refusal :=
  i31With defaultParameters a s

/-- `INT` (R94): the platform integer is 64 bits wide, so its value is that of `I63`. -/
def intWith (par : Parameters) (_ : Word) (s : State) : Host.Outcome State Fault Refusal :=
  withSeed s (answerDraw (drawI63 par.step s.S) s)

/-- `INT` in the default instance. -/
def execInt (a : Word) (s : State) : Host.Outcome State Fault Refusal :=
  intWith defaultParameters a s

end Sys2Proof.Machine
end

