-- ==== Sys2Proof/Machine/Operands.lean ====
section
/-! DEFINITION. How a command reads its operand `A` (spec/30_encoding.md R63): the four readings, each an exact integer.
A command whose operand is ignored does not call any of them. -/

namespace Sys2Proof.Machine

/-- All 64 bits of `A`, unsigned: `SEED`, `U64N`, `UNMARSHAL`, `ZROM` (R63). -/
def unsigned64 (a : Word) : Nat := a.toNat

/-- `sint_64(A)`: `I63N`, `INTN`, `PERM`, `SHUF`, `READ` (R7, R63). -/
def signed64 (a : Word) : Int := a.toInt

/-- `A[31:0]`, unsigned; `A[63:32]` is ignored: `U32N` (R63). -/
def unsigned32 (a : Word) : Nat := (a.extractLsb' 0 32).toNat

/-- `sint_32(A[31:0])`; `A[63:32]` is ignored: `I31N` (R7, R63). -/
def signed32 (a : Word) : Int := (a.extractLsb' 0 32).toInt

end Sys2Proof.Machine
end

