-- ==== Sys2Proof/Machine/Bounded.lean ====
section
/-! DEFINITION. The bounded sampler: `U64N`, `I63N`, `U32N`, `I31N`, `INTN` (spec/42_bounded_sampler.md R100 to R109). -/

namespace Sys2Proof.Machine

/-- `M = 2^W - (2^W mod n)`, the largest multiple of n not above `2^W` (R101, R102). -/
def threshold (n W : Nat) : Nat := 2 ^ W - 2 ^ W % n

/-- One draw of the redraw loop: accept a value below M, reject the others (R101). -/
def redrawStep {σ : Type} (draw : σ → Nat × σ) (m : Nat) (s : σ) : Iter Nat σ :=
  if (draw s).1 < m then .done (draw s).1 (draw s).2 else .again (draw s).2

/-- `Bounded(n, W, Draw)` for `1 <= n <= 2^W - 1` (R101): a single masked draw when n is a power of two, else
rejection against M and reduction modulo n. `none` if the redraw loop never ends (R238). -/
def bounded {σ : Type} (n W : Nat) (draw : σ → Nat × σ) (s : σ) : Option (Nat × σ) :=
  if n &&& (n - 1) = 0 then some ((draw s).1 &&& (n - 1), (draw s).2)
  else
    match runLoop (redrawStep draw (threshold n W)) Config.loopBound s with
    | some (v, s') => some (v % n, s')
    | none => none

/-- What the five bounded commands share once their bound is read (R103): the seed check, the domain check, the
sampler. -/
def boundedCommand (n : Int) (W : Nat) (draw : Engine → Nat × Engine) (s : State) :
    Host.Outcome State Fault Refusal :=
  withSeed s
    (if n ≤ 0 then raise .domainError s
     else
       match bounded n.toNat W draw s.S with
       | some d => answerDraw d s
       | none => finish (.error .never))

/-- `U64N` (R103): the bound is `A`, unsigned. -/
def u64nWith (par : Parameters) (a : Word) (s : State) : Host.Outcome State Fault Refusal :=
  boundedCommand (unsigned64 a) 64 (drawU64 par.step) s

/-- `U64N` in the default instance. -/
def execU64N (a : Word) (s : State) : Host.Outcome State Fault Refusal :=
  u64nWith defaultParameters a s

/-- `I63N` (R104): the bound is `sint_64(A)`. -/
def i63nWith (par : Parameters) (a : Word) (s : State) : Host.Outcome State Fault Refusal :=
  boundedCommand (signed64 a) 63 (drawI63 par.step) s

/-- `I63N` in the default instance. -/
def execI63N (a : Word) (s : State) : Host.Outcome State Fault Refusal :=
  i63nWith defaultParameters a s

/-- `U32N` (R105): the bound is `A[31:0]`, unsigned. -/
def u32nWith (par : Parameters) (a : Word) (s : State) : Host.Outcome State Fault Refusal :=
  boundedCommand (unsigned32 a) 32 (drawU32 par.step) s

/-- `U32N` in the default instance. -/
def execU32N (a : Word) (s : State) : Host.Outcome State Fault Refusal :=
  u32nWith defaultParameters a s

/-- `I31N` (R106): the bound is `sint_32(A[31:0])`. -/
def i31nWith (par : Parameters) (a : Word) (s : State) : Host.Outcome State Fault Refusal :=
  boundedCommand (signed32 a) 31 (drawI31 par.step) s

/-- `I31N` in the default instance. -/
def execI31N (a : Word) (s : State) : Host.Outcome State Fault Refusal :=
  i31nWith defaultParameters a s

/-- `INTN` (R107): the platform integer is 64 bits wide, so its bound and its value are those of `I63N`. -/
def intnWith (par : Parameters) (a : Word) (s : State) : Host.Outcome State Fault Refusal :=
  boundedCommand (signed64 a) 63 (drawI63 par.step) s

/-- `INTN` in the default instance. -/
def execIntN (a : Word) (s : State) : Host.Outcome State Fault Refusal :=
  intnWith defaultParameters a s

end Sys2Proof.Machine
end

