-- ==== Sys2Proof/Machine/ByteStream.lean ====
section
/-! DEFINITION. The byte stream adapter: `READ` (spec/48_byte_stream.md R170 to R177). -/

namespace Sys2Proof.Machine

/-- The working registers of `READ`: a source of words, the leftover word, and how many bytes of it are held, 0 to 8 (a
4-bit counter inside the command, R171). -/
structure ByteBuffer (σ : Type) where
  /-- the source of words -/
  source : σ
  /-- `RDV` -/
  value : Word
  /-- the working count -/
  count : Nat
deriving DecidableEq, Repr

/-- `if RDC = 0: RDV <- NextWord(), RDC <- 8` (R171). -/
def ByteBuffer.refill {σ : Type} (next : Source σ) (b : ByteBuffer σ) : ByteBuffer σ :=
  if b.count = 0 then { source := (next b.source).2, value := (next b.source).1, count := 8 } else b

/-- `emit BOUT(RDV[7:0])`, the byte sent. -/
def ByteBuffer.first {σ : Type} (b : ByteBuffer σ) : Byte := byteAt b.value 0

/-- `RDV <- RDV >> 8`, `RDC <- RDC - 1` (R171). -/
def ByteBuffer.shift {σ : Type} (b : ByteBuffer σ) : ByteBuffer σ :=
  { b with value := b.value >>> 8, count := b.count - 1 }

/-- The byte loop of `READ`, `len` times (R171): the bytes sent and the registers afterwards. -/
def readBytes {σ : Type} (next : Source σ) : Nat → ByteBuffer σ → List Byte × ByteBuffer σ
  | 0, b => ([], b)
  | len + 1, b =>
    ((b.refill next).first :: (readBytes next len (b.refill next).shift).1,
     (readBytes next len (b.refill next).shift).2)

/-- The working registers at the start of a `READ`. -/
def State.byteBuffer (s : State) : ByteBuffer Engine := { source := s.S, value := s.RDV, count := s.RDC.toNat }

/-- The state with the working registers written back; the count is back in 0..7 (R171). -/
def State.setBuffer (s : State) (b : ByteBuffer Engine) : State :=
  (s.setS b.source).setLeftover b.value (BitVec.ofNat 3 b.count)

/-- `READ` after the seed check (R171): exactly `len` bytes on `BOUT`, `R = len`. -/
def readCommand (next : Source Engine) (len : Int) (s : State) : Host.Outcome State Fault Refusal :=
  if len < 0 then raise .invalidArgument s
  else
    complete (word len.toNat)
      ((s.setBuffer (readBytes next len.toNat s.byteBuffer).2).emit
        ((readBytes next len.toNat s.byteBuffer).1.map .bout))

/-- `READ` (R171). -/
def readWith (par : Parameters) (a : Word) (s : State) : Host.Outcome State Fault Refusal :=
  withSeed s (readCommand par.step (signed64 a) s)

/-- `READ` in the default instance. -/
def execRead (a : Word) (s : State) : Host.Outcome State Fault Refusal :=
  readWith defaultParameters a s

end Sys2Proof.Machine
end

