-- ==== Sys2Proof/Machine/Codec.lean ====
section
/-! DEFINITION. The state codec: `MARSHAL`, `UNMARSHAL` (spec/49_state_codec.md R180 to R189). -/

namespace Sys2Proof.Machine

/-- What a snapshot holds: `S`, `RDC`, `RDV` and nothing else (R189). -/
structure Snapshot where
  /-- `S` -/
  S : Engine
  /-- `RDC` -/
  RDC : BitVec 3
  /-- `RDV` -/
  RDV : Word
deriving DecidableEq, Repr

/-- The snapshot of a state. -/
def State.snapshot (s : State) : Snapshot := { S := s.S, RDC := s.RDC, RDV := s.RDV }

/-- The 25 bytes of a snapshot under a version tag (R181, R188): the tag, `S` and the leftover bytes least significant
first, the count between them. -/
def Snapshot.bytes (ver : Byte) (x : Snapshot) : List Byte :=
  ver :: (leBytes 16 x.S ++ (x.RDC.setWidth 8 :: leBytes 7 x.RDV))

/-- Byte k of a payload. -/
def payloadByte (b : List Byte) (k : Nat) : Byte := b.getD k 0#8

/-- The padding of a payload with leftover count `c` is zero: `B[18+k] = 0` for k = c..6 (R184). -/
def paddingZero (b : List Byte) (c : Nat) : Bool :=
  (List.range 7).all fun k => decide (k < c) || payloadByte b (18 + k) == 0x00#8

/-- The four checks of `UNMARSHAL`, in the order of R184, by an instance that accepts one version tag (R188); `none` is
`FormatError`. -/
def parseSnapshot (ver : Byte) (b : List Byte) : Option Snapshot :=
  if b.length ≠ Config.snapLen then none
  else if payloadByte b 0 ≠ ver then none
  else if 7 < (payloadByte b 17).toNat then none
  else if paddingZero b (payloadByte b 17).toNat = false then none
  else
    some {
      S := BitVec.ofNat 128 (leValue ((b.drop 1).take 16))
      RDC := (payloadByte b 17).setWidth 3
      RDV := BitVec.ofNat 64 (leValue ((b.drop 18).take 7)) }

/-- Load a snapshot: `S`, `RDC`, `RDV`, and `SEEDED <- 1` (R184). -/
def State.restore (s : State) (x : Snapshot) : State :=
  ((s.setS x.S).setLeftover x.RDV x.RDC).markSeeded

/-- `MARSHAL` (R182): the 25 bytes on `BOUT`, `R = 25`, no state written. -/
def marshalWith (par : Parameters) (_ : Word) (s : State) : Host.Outcome State Fault Refusal :=
  withSeed s (complete (BitVec.ofNat 64 Config.snapLen) (s.emit ((s.snapshot.bytes par.snapVer).map .bout)))

/-- `MARSHAL` in the default instance. -/
def execMarshal (a : Word) (s : State) : Host.Outcome State Fault Refusal :=
  marshalWith defaultParameters a s

/-- `UNMARSHAL` (R184): take L = `A` bytes from `DIN`, check, restore. While fewer than L bytes are on `DIN` "the command
waits for the rest" (R241): it stays in flight, with nothing taken and nothing answered (log entry 6). -/
def unmarshalWith (par : Parameters) (a : Word) (s : State) : Host.Outcome State Fault Refusal :=
  if s.DIN.length < unsigned64 a then .next s
  else
    match parseSnapshot par.snapVer (s.DIN.take (unsigned64 a)) with
    | some x => complete 0#64 ((s.dropDin (unsigned64 a)).restore x)
    | none => raise .formatError (s.dropDin (unsigned64 a))

/-- `UNMARSHAL` in the default instance. -/
def execUnmarshal (a : Word) (s : State) : Host.Outcome State Fault Refusal :=
  unmarshalWith defaultParameters a s

end Sys2Proof.Machine
end

