-- ==== Sys2Proof/Machine/FloatConstructor.lean ====
section
/-! DEFINITION. The float constructor: `F64`, `F32`, and the uniform source of the ziggurat sampler
(spec/43_float_constructor.md R115 to R120). -/

namespace Sys2Proof.Machine

/-- The bits of the float equal to `m * 2^-(F+1)`, exactly, for `m < 2^(F+1)` (R118): F fraction bits and the given
exponent bias; the leading one is dropped and nothing is rounded. -/
def scaledFloat (F bias m : Nat) : Nat :=
  if m = 0 then 0
  else (bias - (F + 1) + Nat.log2 m) * 2 ^ F + m * 2 ^ (F - Nat.log2 m) % 2 ^ F

/-- The binary64 pattern of `m * 2^-53` (R116, R118). -/
def f64OfBits53 (m : Nat) : Nat := scaledFloat 52 1023 m

/-- The binary32 pattern of `m * 2^-24` (R117, R118). -/
def f32OfBits24 (m : Nat) : Nat := scaledFloat 23 127 m

/-- The value of `F64` from one raw word: `u[63:11] * 2^-53` (R116). -/
def drawF64 {σ : Type} (next : Source σ) (s : σ) : Nat × σ :=
  (f64OfBits53 (slice (next s).1 63 11), (next s).2)

/-- The value of `F32` from one raw word: `u[63:40] * 2^-24` (R117). -/
def drawF32 {σ : Type} (next : Source σ) (s : σ) : Nat × σ :=
  (f32OfBits24 (slice (next s).1 63 40), (next s).2)

/-- `Uniform01()`, the `f64` of R116 from one fresh raw word (R120). -/
def uniform01 {σ : Type} (next : Source σ) (s : σ) : Word × σ :=
  (word (drawF64 next s).1, (drawF64 next s).2)

/-- `F64` (R116). -/
def f64With (par : Parameters) (_ : Word) (s : State) : Host.Outcome State Fault Refusal :=
  withSeed s (answerDraw (drawF64 par.step s.S) s)

/-- `F64` in the default instance. -/
def execF64 (a : Word) (s : State) : Host.Outcome State Fault Refusal :=
  f64With defaultParameters a s

/-- `F32` (R117). -/
def f32With (par : Parameters) (_ : Word) (s : State) : Host.Outcome State Fault Refusal :=
  withSeed s (answerDraw (drawF32 par.step s.S) s)

/-- `F32` in the default instance. -/
def execF32 (a : Word) (s : State) : Host.Outcome State Fault Refusal :=
  f32With defaultParameters a s

end Sys2Proof.Machine
end

