-- ==== Sys2Proof/Machine/Permutation.lean ====
section
/-! DEFINITION. The permutation engine: `PERM` and `SHUF` (spec/47_permutation_engine.md R160 to R167). `PERM` owns the
scratch RAM and works in it as R161 writes it; `SHUF` owns nothing and sends its swaps to the host. -/

namespace Sys2Proof.Machine

/-- The draw of one Fisher-Yates step, an index uniform in `[0, i]`: `Bounded(i + 1, 64, DrawU64)` (R163). -/
def drawIndex {σ : Type} (next : Source σ) (i : Nat) (s : σ) : Option (Nat × σ) :=
  bounded (i + 1) 64 (drawU64 next) s

/-! ## `PERM` -/

/-- The identity fill: `n` writes of `MemWrite(P, k, k)`, ascending from `k` (R161). -/
def fillIdentity (cap : Nat) : Nat → Nat → List (Nat × Word) → Except Stop (List (Nat × Word))
  | 0, _, p => .ok p
  | n + 1, k, p =>
    match memWrite cap p k (word k) with
    | .ok p' => fillIdentity cap n (k + 1) p'
    | .error f => .error (.fault f)

/-- Exchange entries i and j of `P`: `t = P[i]`, then `P[i] <- P[j]`, then `P[j] <- t` (R161). -/
def swapEntries (cap : Nat) (p : List (Nat × Word)) (i j : Nat) : Except Stop (List (Nat × Word)) :=
  match memRead cap p i, memRead cap p j with
  | .ok t, .ok v =>
    match memWrite cap p i v with
    | .ok p' =>
      match memWrite cap p' j t with
      | .ok p'' => .ok p''
      | .error f => .error (.fault f)
    | .error f => .error (.fault f)
  | .error f, _ => .error (.fault f)
  | _, .error f => .error (.fault f)

/-- The Fisher-Yates steps for i down to 1 (R161). -/
def permSwaps {σ : Type} (cap : Nat) (next : Source σ) :
    Nat → List (Nat × Word) → σ → Except Stop (List (Nat × Word) × σ)
  | 0, p, s => .ok (p, s)
  | i + 1, p, s =>
    match drawIndex next (i + 1) s with
    | none => .error .never
    | some (j, s') =>
      match swapEntries cap p (i + 1) j with
      | .ok p' => permSwaps cap next i p' s'
      | .error e => .error e

/-- The stream-out: `n` reads of `P`, ascending from `k` (R161). -/
def readOut (cap : Nat) (p : List (Nat × Word)) : Nat → Nat → Except Stop (List Word)
  | 0, _ => .ok []
  | n + 1, k =>
    match memRead cap p k with
    | .error f => .error (.fault f)
    | .ok v =>
      match readOut cap p n (k + 1) with
      | .ok vs => .ok (v :: vs)
      | .error e => .error e

/-- What a run of `PERM` gives: the values for `VOUT`, the scratch RAM as it is left, and the source of words. -/
structure PermResult (σ : Type) where
  /-- the n values, element 0 first -/
  values : List Word
  /-- the scratch RAM afterwards -/
  ram : List (Nat × Word)
  /-- the source of words afterwards -/
  source : σ

/-- `PERM n` with a scratch RAM of `cap` entries, `0 <= n <= cap` (R161): fill, swap, stream out. -/
def permRun {σ : Type} (cap : Nat) (next : Source σ) (n : Nat) (p : List (Nat × Word)) (s : σ) :
    Except Stop (PermResult σ) :=
  match fillIdentity cap n 0 p with
  | .error e => .error e
  | .ok p0 =>
    match permSwaps cap next (n - 1) p0 s with
    | .error e => .error e
    | .ok (p1, s') =>
      match readOut cap p1 n 0 with
      | .error e => .error e
      | .ok vs => .ok { values := vs, ram := p1, source := s' }

/-- The state `PERM` leaves from its run (R161): n items on `VOUT`, `R = n`. -/
def permState (n : Nat) (r : PermResult Engine) (s : State) : State :=
  (((s.setS r.source).setP r.ram).emit (r.values.map .vout)).respond .ok (word n)

/-- `PERM` with a scratch RAM of `cap` entries, after the seed check (R161): `InvalidArgument` before `CapacityError`
(R210). -/
def permCommand (cap : Nat) (next : Source Engine) (n : Int) (s : State) : Host.Outcome State Fault Refusal :=
  if n < 0 then raise .invalidArgument s
  else if (cap : Int) < n then raise .capacityError s
  else
    match permRun cap next n.toNat s.P s.S with
    | .ok r => finish (.ok (permState n.toNat r s))
    | .error e => finish (.error e)

/-- `PERM` (R161). -/
def permWith (par : Parameters) (a : Word) (s : State) : Host.Outcome State Fault Refusal :=
  withSeed s (permCommand par.permMax par.step (signed64 a) s)

/-- `PERM` in the default instance. -/
def execPerm (a : Word) (s : State) : Host.Outcome State Fault Refusal :=
  permWith defaultParameters a s

/-! ## `SHUF` -/

/-- The swap requests for i down to 1, in the order emitted (R162). -/
def shuffleSwaps {σ : Type} (next : Source σ) : Nat → σ → Option (List (Nat × Nat) × σ)
  | 0, s => some ([], s)
  | i + 1, s =>
    match drawIndex next (i + 1) s with
    | none => none
    | some (j, s') =>
      match shuffleSwaps next i s' with
      | none => none
      | some (rest, s'') => some ((i + 1, j) :: rest, s'')

/-- A swap request as an item of `SWP`: a pair of 64-bit indices (R162). -/
def swapItem (x : Nat × Nat) : OutItem := .swp (word x.1) (word x.2)

/-- `SHUF` after the seed check (R162). There is no capacity limit. -/
def shufCommand (next : Source Engine) (n : Int) (s : State) : Host.Outcome State Fault Refusal :=
  if n < 0 then raise .invalidArgument s
  else
    match shuffleSwaps next (n.toNat - 1) s.S with
    | some (swaps, e) => complete (word swaps.length) ((s.setS e).emit (swaps.map swapItem))
    | none => finish (.error .never)

/-- `SHUF` (R162). -/
def shufWith (par : Parameters) (a : Word) (s : State) : Host.Outcome State Fault Refusal :=
  withSeed s (shufCommand par.step (signed64 a) s)

/-- `SHUF` in the default instance. -/
def execShuf (a : Word) (s : State) : Host.Outcome State Fault Refusal :=
  shufWith defaultParameters a s

end Sys2Proof.Machine
end

