-- ==== Sys2Proof/Machine/RomNormal.lean ====
section
/-! DEFINITION. The table ROM of the normal distribution: `KN`, `WN`, `FN` and `RN`, copied digit for digit from the
table of spec/45_ziggurat_tables_normal.md (R150, R151). Each row is one layer: threshold, strip width, density at the strip boundary. -/

namespace Sys2Proof.Machine

/-- One layer of a ziggurat table set: `K[i]` an unsigned integer, `W[i]` and `F[i]` binary64 patterns (R150, R155). -/
structure Layer where
  /-- `K[i]` -/
  k : Word
  /-- `W[i]` -/
  w : Word
  /-- `F[i]` -/
  f : Word
deriving DecidableEq, Repr

/-- Layers 0 to 15. -/
def normalLayers0 : List Layer := [
  ⟨0x007799EC012F7B2A#64, 0x3C9F493B7815D982#64, 0x3FF0000000000000#64⟩,
  ⟨0x0000000000000000#64, 0x3C5B8D0BE3FDF702#64, 0x3FEF446AC979F084#64⟩,
  ⟨0x006045F4C7DE35B2#64, 0x3C6250AF3C2C5BC6#64, 0x3FEEB7545B6CA912#64⟩,
  ⟨0x006D1AA7D5EC0A30#64, 0x3C657CB938443B71#64, 0x3FEE3F11E027F074#64⟩,
  ⟨0x00728FB3F60F7761#64, 0x3C6801FCE82FA71A#64, 0x3FEDD36FA704DE92#64⟩,
  ⟨0x007592AF4E9FBBF2#64, 0x3C6A230C2E4CD0CB#64, 0x3FED70920657BCEF#64⟩,
  ⟨0x00777A5C0BF655C7#64, 0x3C6C004D2F386207#64, 0x3FED144978A119D9#64⟩,
  ⟨0x0078CA3857D2255C#64, 0x3C6DAC2F5A747281#64, 0x3FECBD33A8A72DE8#64⟩,
  ⟨0x0079BF6B0FFE58BA#64, 0x3C6F32482D4CD5D0#64, 0x3FEC6A5ECEA9787C#64⟩,
  ⟨0x007A7A34AB092ADB#64, 0x3C704D32278EBBB4#64, 0x3FEC1B1CD9EEBAE7#64⟩,
  ⟨0x007B0D2F20DD1CB3#64, 0x3C70F5053B025D4A#64, 0x3FEBCEEB4EE1DC7F#64⟩,
  ⟨0x007B83D3AA9CB525#64, 0x3C7192A69741367D#64, 0x3FEB85653A8FF54F#64⟩,
  ⟨0x007BE597614224DA#64, 0x3C7227A28F7A1AFA#64, 0x3FEB3E3A8234DD0E#64⟩,
  ⟨0x007C3788631ABE96#64, 0x3C72B52E3863D885#64, 0x3FEAF92A3F6CE8A0#64⟩,
  ⟨0x007C7D32BC192EEC#64, 0x3C733C3FC05791FA#64, 0x3FEAB5FEF17A2502#64⟩,
  ⟨0x007CB9263A6E86D0#64, 0x3C73BD9EC1A2B134#64, 0x3FEA748BD550C9DE#64⟩]

/-- Layers 16 to 31. -/
def normalLayers1 : List Layer := [
  ⟨0x007CED483EDFA845#64, 0x3C7439EF8DFF9B5A#64, 0x3FEA34AAFDF5AF0C#64⟩,
  ⟨0x007D1B07AC0FD395#64, 0x3C74B1BB363DFEAD#64, 0x3FE9F63BEE651FD5#64⟩,
  ⟨0x007D437EF2DA5FC5#64, 0x3C752575621AD379#64, 0x3FE9B9228D24067E#64⟩,
  ⟨0x007D678B069AA6DF#64, 0x3C759580A707CE9C#64, 0x3FE97D4657617ABE#64⟩,
  ⟨0x007D87DB38C5C872#64, 0x3C760231CFD97EF1#64, 0x3FE94291C21B7A43#64⟩,
  ⟨0x007DA4FC6A9BA62D#64, 0x3C766BD261A37C44#64, 0x3FE908F1BD31714B#64⟩,
  ⟨0x007DBF611B37F3BC#64, 0x3C76D2A292000576#64, 0x3FE8D0554FE60AA4#64⟩,
  ⟨0x007DD7674D0F2865#64, 0x3C7736DAD346F8AD#64, 0x3FE898AD48BADEFE#64⟩,
  ⟨0x007DED5CE8205F6F#64, 0x3C7798AD10B32A7E#64, 0x3FE861EBFC37BCA8#64⟩,
  ⟨0x007E018307FB62BA#64, 0x3C77F845AD46F549#64, 0x3FE82C050F56CF6B#64⟩,
  ⟨0x007E141081BD1242#64, 0x3C7855CC53430A7D#64, 0x3FE7F6ED4B20E2C8#64⟩,
  ⟨0x007E2533D712DE89#64, 0x3C78B1649E7B769F#64, 0x3FE7C29A779C6855#64⟩,
  ⟨0x007E3514BBD77181#64, 0x3C790B2EA94ECF9E#64, 0x3FE78F033CA0B0D2#64⟩,
  ⟨0x007E43D54944B525#64, 0x3C796347822C1EF0#64, 0x3FE75C1F0770D852#64⟩,
  ⟨0x007E5192F25EF429#64, 0x3C79B9C98E38C54D#64, 0x3FE729E5F43F6D0E#64⟩,
  ⟨0x007E5E67481118D0#64, 0x3C7A0ECCDCA4A731#64, 0x3FE6F850BAEA7AEB#64⟩]

/-- Layers 32 to 47. -/
def normalLayers2 : List Layer := [
  ⟨0x007E6A6897C1CE22#64, 0x3C7A62676D77CD5F#64, 0x3FE6C7589E635A86#64⟩,
  ⟨0x007E75AA6C7F64C8#64, 0x3C7AB4AD6E101636#64, 0x3FE696F75E513B26#64⟩,
  ⟨0x007E803DF8EE4987#64, 0x3C7B05B16D136CA2#64, 0x3FE667272A92E320#64⟩,
  ⟨0x007E8A326EB6272B#64, 0x3C7B558487427A2F#64, 0x3FE637E298550C15#64⟩,
  ⟨0x007E93954717A281#64, 0x3C7BA4368E529F40#64, 0x3FE6092498802661#64⟩,
  ⟨0x007E9C727F8648F0#64, 0x3C7BF1D62ABF8239#64, 0x3FE5DAE86F4AFF66#64⟩,
  ⟨0x007EA4D4CC85A3CC#64, 0x3C7C3E70F9594EF8#64, 0x3FE5AD29ACC85C85#64⟩,
  ⟨0x007EACC5C4907A97#64, 0x3C7C8A13A5323B66#64, 0x3FE57FE4264C8D8C#64⟩,
  ⟨0x007EB44E0474CF61#64, 0x3C7CD4C9FE72268F#64, 0x3FE55313F08D9E44#64⟩,
  ⟨0x007EBB754E474191#64, 0x3C7D1E9F0E80B74B#64, 0x3FE526B55A656CD3#64⟩,
  ⟨0x007EC242A3D84741#64, 0x3C7D679D29E41F14#64, 0x3FE4FAC4E820B665#64⟩,
  ⟨0x007EC8BC5D69645D#64, 0x3C7DAFCE0023B8C8#64, 0x3FE4CF3F4F494EBE#64⟩,
  ⟨0x007ECEE83D3D6E95#64, 0x3C7DF73AA9F17656#64, 0x3FE4A42172DC5276#64⟩,
  ⟨0x007ED4CB8082F45D#64, 0x3C7E3DEBB5D2EE02#64, 0x3FE479685FDF500F#64⟩,
  ⟨0x007EDA6AEE0170FE#64, 0x3C7E83E9337A6F04#64, 0x3FE44F114A493676#64⟩,
  ⟨0x007EDFCAE2DFE686#64, 0x3C7EC93ABDF982D2#64, 0x3FE425198A355FE0#64⟩]

/-- Layers 48 to 63. -/
def normalLayers3 : List Layer := [
  ⟨0x007EE4EF5DCCD3E8#64, 0x3C7F0DE784F0622A#64, 0x3FE3FB7E99585B7F#64⟩,
  ⟨0x007EE9DC08C394EB#64, 0x3C7F51F654D8F68C#64, 0x3FE3D23E10AF31A1#64⟩,
  ⟨0x007EEE9441A17C7D#64, 0x3C7F956D9E87D7B2#64, 0x3FE3A955A662CD0B#64⟩,
  ⟨0x007EF31B21B4FB1C#64, 0x3C7FD8537DFA2EB1#64, 0x3FE380C32BDA00D2#64⟩,
  ⟨0x007EF773846A8A73#64, 0x3C800D56E04234EE#64, 0x3FE358848BF550E6#64⟩,
  ⟨0x007EFBA00D35A171#64, 0x3C802E40F5398F9D#64, 0x3FE33097C9703A32#64⟩,
  ⟨0x007EFFA32CCF69F6#64, 0x3C804EEA9E16A5FF#64, 0x3FE308FAFD6438EB#64⟩,
  ⟨0x007F037F25E1278D#64, 0x3C806F565B72A014#64, 0x3FE2E1AC55EA3BEA#64⟩,
  ⟨0x007F0736112D12C2#64, 0x3C808F869071F40F#64, 0x3FE2BAAA14D79545#64⟩,
  ⟨0x007F0AC9E145C25E#64, 0x3C80AF7D84BC6116#64, 0x3FE293F28E93CD11#64⟩,
  ⟨0x007F0E3C65E1FCC6#64, 0x3C80CF3D664BCC83#64, 0x3FE26D84290504E9#64⟩,
  ⟨0x007F118F4ED8E54B#64, 0x3C80EEC84B16086F#64, 0x3FE2475D5A90DB80#64⟩,
  ⟨0x007F14C42ED0DC8F#64, 0x3C810E20329515F1#64, 0x3FE2217CA92FF7EE#64⟩,
  ⟨0x007F17DC7DAA0C31#64, 0x3C812D4707310FC1#64, 0x3FE1FBE0A992961D#64⟩,
  ⟨0x007F1AD99AAC6A57#64, 0x3C814C3E9F8E9143#64, 0x3FE1D687FE549966#64⟩,
  ⟨0x007F1DBCCE800155#64, 0x3C816B08BFC42020#64, 0x3FE1B171573FD10E#64⟩]

/-- Layers 64 to 79. -/
def normalLayers4 : List Layer := [
  ⟨0x007F20874CF56BF4#64, 0x3C8189A71A78DA37#64, 0x3FE18C9B709B3C4D#64⟩,
  ⟨0x007F233A36A3B9A4#64, 0x3C81A81B51EE6D8B#64, 0x3FE16805128639D6#64⟩,
  ⟨0x007F25D69A604ADF#64, 0x3C81C666F8F82ACF#64, 0x3FE143AD105EA998#64⟩,
  ⟨0x007F285D7694A924#64, 0x3C81E48B93E0D431#64, 0x3FE11F9248311F34#64⟩,
  ⟨0x007F2ACFBA75E3B9#64, 0x3C82028A9940A0A3#64, 0x3FE0FBB3A232590F#64⟩,
  ⟨0x007F2D2E47209093#64, 0x3C82206572C4C6EC#64, 0x3FE0D8101041429C#64⟩,
  ⟨0x007F2F79F09C3449#64, 0x3C823E1D7DE9C322#64, 0x3FE0B4A68D70D9AB#64⟩,
  ⟨0x007F31B37EC883BF#64, 0x3C825BB40CA96BFE#64, 0x3FE091761D995D7D#64⟩,
  ⟨0x007F33DBAE36ABC1#64, 0x3C82792A661DD381#64, 0x3FE06E7DCCF03C33#64⟩,
  ⟨0x007F35F330F08D57#64, 0x3C829681C719D71D#64, 0x3FE04BBCAFA63F2B#64⟩,
  ⟨0x007F37FAAF2FA790#64, 0x3C82B3BB62B82EDB#64, 0x3FE02931E18B8228#64⟩,
  ⟨0x007F39F2C8053809#64, 0x3C82D0D862E1B855#64, 0x3FE006DC85B8CAC2#64⟩,
  ⟨0x007F3BDC11F4F1CB#64, 0x3C82EDD9E8CBA990#64, 0x3FDFC9778C7BBD9B#64⟩,
  ⟨0x007F3DB71B83850E#64, 0x3C830AC10D6E48DA#64, 0x3FDF859DA7A900C4#64⟩,
  ⟨0x007F3F846BBA1217#64, 0x3C83278EE1F4B933#64, 0x3FDF4229CB2F7AEC#64⟩,
  ⟨0x007F4144829F8462#64, 0x3C83444470265EA4#64, 0x3FDEFF1A717E8F8E#64⟩]

/-- Layers 80 to 95. -/
def normalLayers5 : List Layer := [
  ⟨0x007F42F7D9A8B9D8#64, 0x3C8360E2BACA52D7#64, 0x3FDEBC6E20BD1F4F#64⟩,
  ⟨0x007F449EE4204323#64, 0x3C837D6ABE05586C#64, 0x3FDE7A236A4EC3BF#64⟩,
  ⟨0x007F463A0F8675E0#64, 0x3C8399DD6FB2B267#64, 0x3FDE3838EA5F9B7E#64⟩,
  ⟨0x007F47C9C3EA77B1#64, 0x3C83B63BBFB83D06#64, 0x3FDDF6AD47763A03#64⟩,
  ⟨0x007F494E643CD8E5#64, 0x3C83D28698561DE3#64, 0x3FDDB57F320B56AB#64⟩,
  ⟨0x007F4AC84E9C4754#64, 0x3C83EEBEDE725A85#64, 0x3FDD74AD6426DE2D#64⟩,
  ⟨0x007F4C37DC9CD50D#64, 0x3C840AE571E09E76#64, 0x3FDD3436A102107B#64⟩,
  ⟨0x007F4D9D638A432D#64, 0x3C8426FB2DA6745F#64, 0x3FDCF419B4AE5B69#64⟩,
  ⟨0x007F4EF934A5B6A9#64, 0x3C844300E83C30A6#64, 0x3FDCB45573C0A843#64⟩,
  ⟨0x007F504B9D5F33DC#64, 0x3C845EF773CAC75E#64, 0x3FDC74E8BB00D7C3#64⟩,
  ⟨0x007F5194E78B3521#64, 0x3C847ADF9E66C338#64, 0x3FDC35D26F1D2CB5#64⟩,
  ⟨0x007F52D55994A965#64, 0x3C8496BA32488F30#64, 0x3FDBF7117C616A14#64⟩,
  ⟨0x007F540D36ABA0CD#64, 0x3C84B287F602415E#64, 0x3FDBB8A4D6716D8F#64⟩,
  ⟨0x007F553CBEF0E77B#64, 0x3C84CE49ACB311DD#64, 0x3FDB7A8B78071319#64⟩,
  ⟨0x007F56642F9EC8FD#64, 0x3C84EA001638A606#64, 0x3FDB3CC462B331C8#64⟩,
  ⟨0x007F5783C32F31E1#64, 0x3C8505ABEF5E5563#64, 0x3FDAFF4E9EA18550#64⟩]

/-- Layers 96 to 111. -/
def normalLayers6 : List Layer := [
  ⟨0x007F589BB17F6093#64, 0x3C85214DF20A8B5C#64, 0x3FDAC2293A5F5A9A#64⟩,
  ⟨0x007F59AC2FF15254#64, 0x3C853CE6D56A6650#64, 0x3FDA85534AA4D87D#64⟩,
  ⟨0x007F5AB5718B15A2#64, 0x3C8558774E1BB2C9#64, 0x3FDA48CBEA20C04B#64⟩,
  ⟨0x007F5BB7A71427CD#64, 0x3C8574000E555F79#64, 0x3FDA0C923946843B#64⟩,
  ⟨0x007F5CB2FF31009B#64, 0x3C858F81C60E8515#64, 0x3FD9D0A55E1E93DC#64⟩,
  ⟨0x007F5DA7A67CEBE0#64, 0x3C85AAFD23241B5A#64, 0x3FD995048418C0C3#64⟩,
  ⟨0x007F5E95C7A24E7E#64, 0x3C85C672D17D733F#64, 0x3FD959AEDBE09F8F#64⟩,
  ⟨0x007F5F7D8B7171EF#64, 0x3C85E1E37B2F8CD4#64, 0x3FD91EA39B33CB13#64⟩,
  ⟨0x007F605F18F5EF43#64, 0x3C85FD4FC89F5E39#64, 0x3FD8E3E1FCB9F113#64⟩,
  ⟨0x007F613A958AD0A4#64, 0x3C8618B860A31FC5#64, 0x3FD8A9693FDE9185#64⟩,
  ⟨0x007F621024ED7E9A#64, 0x3C86341DE8A2B0A4#64, 0x3FD86F38A8AC5AB2#64⟩,
  ⟨0x007F62DFE94F8CB3#64, 0x3C864F8104B7260D#64, 0x3FD8354F7FAA0DD5#64⟩,
  ⟨0x007F63AA036777A1#64, 0x3C866AE257C99674#64, 0x3FD7FBAD11B8D90D#64⟩,
  ⟨0x007F646E928065A0#64, 0x3C86864283B13139#64, 0x3FD7C250AFF414AC#64⟩,
  ⟨0x007F652DB488F887#64, 0x3C86A1A22950B2B3#64, 0x3FD78939AF9252E6#64⟩,
  ⟨0x007F65E786213FF2#64, 0x3C86BD01E8B343BD#64, 0x3FD7506769C7B1E8#64⟩]

/-- Layers 112 to 127. -/
def normalLayers7 : List Layer := [
  ⟨0x007F669C22A7D8AA#64, 0x3C86D8626128D354#64, 0x3FD717D93BA96148#64⟩,
  ⟨0x007F674BA446459C#64, 0x3C86F3C43161F856#64, 0x3FD6DF8E86124CA6#64⟩,
  ⟨0x007F67F623FC8DBB#64, 0x3C870F27F78B68EC#64, 0x3FD6A786AD88DE1E#64⟩,
  ⟨0x007F689BB9AC2941#64, 0x3C872A8E516914C7#64, 0x3FD66FC11A25CBDF#64⟩,
  ⟨0x007F693C7C224819#64, 0x3C8745F7DC70EEDD#64, 0x3FD6383D377BE513#64⟩,
  ⟨0x007F69D881217A63#64, 0x3C87616535E57320#64, 0x3FD600FA7480D2C6#64⟩,
  ⟨0x007F6A6FDD6AC36E#64, 0x3C877CD6FAEFF44A#64, 0x3FD5C9F84376C241#64⟩,
  ⟨0x007F6B02A4C61EE7#64, 0x3C87984DC8BABD94#64, 0x3FD5933619D6EEBC#64⟩,
  ⟨0x007F6B90EA0A7F40#64, 0x3C87B3CA3C8B140A#64, 0x3FD55CB3703D00FD#64⟩,
  ⟨0x007F6C1ABF254C0E#64, 0x3C87CF4CF3DB22FC#64, 0x3FD5266FC2533BEA#64⟩,
  ⟨0x007F6CA035216647#64, 0x3C87EAD68C73DEE7#64, 0x3FD4F06A8EBF6D91#64⟩,
  ⟨0x007F6D215C2DB820#64, 0x3C880667A486EA1F#64, 0x3FD4BAA357109CA2#64⟩,
  ⟨0x007F6D9E43A3559B#64, 0x3C882200DAC88677#64, 0x3FD485199FAD6AD4#64⟩,
  ⟨0x007F6E16FA0B3291#64, 0x3C883DA2CE899F16#64, 0x3FD44FCCEFC324FC#64⟩,
  ⟨0x007F6E8B8D237293#64, 0x3C88594E1FD1F5BE#64, 0x3FD41ABCD1357A18#64⟩,
  ⟨0x007F6EFC09E45692#64, 0x3C8875036F7A7EC7#64, 0x3FD3E5E8D08ED2D8#64⟩]

/-- Layers 128 to 143. -/
def normalLayers8 : List Layer := [
  ⟨0x007F6F687C84CBFD#64, 0x3C8890C35F47F72E#64, 0x3FD3B1507CF143AC#64⟩,
  ⟨0x007F6FD0F07EA09D#64, 0x3C88AC8E9205C044#64, 0x3FD37CF368081376#64⟩,
  ⟨0x007F703570925E27#64, 0x3C88C865ABA10C9D#64, 0x3FD348D125F9D19C#64⟩,
  ⟨0x007F709606CAD031#64, 0x3C88E44951446A28#64, 0x3FD314E94D5AF62D#64⟩,
  ⟨0x007F70F2BC8036FF#64, 0x3C89003A2973B591#64, 0x3FD2E13B77210764#64⟩,
  ⟨0x007F714B9A5B2921#64, 0x3C891C38DC288349#64, 0x3FD2ADC73E963FDA#64⟩,
  ⟨0x007F71A0A85725DD#64, 0x3C89384612EF0AFE#64, 0x3FD27A8C414DB11B#64⟩,
  ⟨0x007F71F1EDC4D9E4#64, 0x3C8954627903A28B#64, 0x3FD2478A1F17DE86#64⟩,
  ⟨0x007F723F714C179D#64, 0x3C89708EBB70D5EF#64, 0x3FD214C079F7CC9C#64⟩,
  ⟨0x007F728938ED8431#64, 0x3C898CCB892E2A33#64, 0x3FD1E22EF6188113#64⟩,
  ⟨0x007F72CF4A03FA09#64, 0x3C89A919933F99C1#64, 0x3FD1AFD539C2F04C#64⟩,
  ⟨0x007F7311A945A16D#64, 0x3C89C5798CD5D92E#64, 0x3FD17DB2ED5454E5#64⟩,
  ⟨0x007F73505AC4BF84#64, 0x3C89E1EC2B6F7414#64, 0x3FD14BC7BB34EE63#64⟩,
  ⟨0x007F738B61F03BD2#64, 0x3C89FE7226FAD24D#64, 0x3FD11A134FCF241D#64⟩,
  ⟨0x007F73C2C193DC0B#64, 0x3C8A1B0C39F93696#64, 0x3FD0E895598709BD#64⟩,
  ⟨0x007F73F67BD835CC#64, 0x3C8A37BB21A2C85E#64, 0x3FD0B74D88B242D4#64⟩]

/-- Layers 144 to 159. -/
def normalLayers9 : List Layer := [
  ⟨0x007F742692425597#64, 0x3C8A547F9E0BBB8B#64, 0x3FD0863B8F904331#64⟩,
  ⟨0x007F745305B31A17#64, 0x3C8A715A724AA9A7#64, 0x3FD0555F2242E9D4#64⟩,
  ⟨0x007F747BD666428C#64, 0x3C8A8E4C64A0313F#64, 0x3FD024B7F6C7747A#64⟩,
  ⟨0x007F74A103F12ED3#64, 0x3C8AAB563E9FF10A#64, 0x3FCFE88B89DF93BC#64⟩,
  ⟨0x007F74C28D414F58#64, 0x3C8AC878CD5AF5CF#64, 0x3FCF88108CB8322F#64⟩,
  ⟨0x007F74E0709A42D9#64, 0x3C8AE5B4E18BB338#64, 0x3FCF27FE6CE998CC#64⟩,
  ⟨0x007F74FAAB939F9D#64, 0x3C8B030B4FC3A11B#64, 0x3FCEC854A4C99C3E#64⟩,
  ⟨0x007F75113B166572#64, 0x3C8B207CF09A985C#64, 0x3FCE6912B2283CD9#64⟩,
  ⟨0x007F75241B5A155B#64, 0x3C8B3E0AA0E00C01#64, 0x3FCE0A3816457181#64⟩,
  ⟨0x007F753347E16B88#64, 0x3C8B5BB541CE3D04#64, 0x3FCDABC455C79006#64⟩,
  ⟨0x007F753EBB76B7CC#64, 0x3C8B797DB93F8928#64, 0x3FCD4DB6F8B2514C#64⟩,
  ⟨0x007F75467027D052#64, 0x3C8B9764F1E5F73D#64, 0x3FCCF00F8A5E6FCA#64⟩,
  ⟨0x007F754A5F4199DC#64, 0x3C8BB56BDB85256E#64, 0x3FCC92CD9971DF52#64⟩,
  ⟨0x007F754A814B207A#64, 0x3C8BD3936B2EC0A2#64, 0x3FCC35F0B7D89D46#64⟩,
  ⟨0x007F7546CE003AEF#64, 0x3C8BF1DC9B81AE82#64, 0x3FCBD9787ABE18A2#64⟩,
  ⟨0x007F753F3C4BB29E#64, 0x3C8C10486CEC16A0#64, 0x3FCB7D647A8731AB#64⟩]

/-- Layers 160 to 175. -/
def normalLayers10 : List Layer := [
  ⟨0x007F7533C240E923#64, 0x3C8C2ED7E5F07A2D#64, 0x3FCB21B452CCD13A#64⟩,
  ⟨0x007F75245514F416#64, 0x3C8C4D8C136E0D1D#64, 0x3FCAC667A2571805#64⟩,
  ⟨0x007F7510E91726CE#64, 0x3C8C6C6608EC8705#64, 0x3FCA6B7E0B19267C#64⟩,
  ⟨0x007F74F971A90123#64, 0x3C8C8B66E0EBA617#64, 0x3FCA10F7322D7E3C#64⟩,
  ⟨0x007F74DDE1357974#64, 0x3C8CAA8FBD36A2AB#64, 0x3FC9B6D2BFD2FE5A#64⟩,
  ⟨0x007F74BE2927971D#64, 0x3C8CC9E1C73BD690#64, 0x3FC95D105F6A7C27#64⟩,
  ⟨0x007F749A39E051C8#64, 0x3C8CE95E3068E037#64, 0x3FC903AFBF74FA68#64⟩,
  ⟨0x007F747202ABA8AB#64, 0x3C8D0906328B8F6E#64, 0x3FC8AAB09192815A#64⟩,
  ⟨0x007F744571B4E3CC#64, 0x3C8D28DB1037EF20#64, 0x3FC852128A819A38#64⟩,
  ⟨0x007F741473F9EFE6#64, 0x3C8D48DE1533C647#64, 0x3FC7F9D5621F7174#64⟩,
  ⟨0x007F73DEF53DC43E#64, 0x3C8D691096E7F123#64, 0x3FC7A1F8D368A323#64⟩,
  ⟨0x007F73A4DFF9BFF9#64, 0x3C8D8973F4D7FBA4#64, 0x3FC74A7C9C7AB5A8#64⟩,
  ⟨0x007F73661D4DEAF3#64, 0x3C8DAA0999206E6E#64, 0x3FC6F3607E964719#64⟩,
  ⟨0x007F732294F003F9#64, 0x3C8DCAD2F8FC490C#64, 0x3FC69CA43E21F261#64⟩,
  ⟨0x007F72DA2D194445#64, 0x3C8DEBD195522E34#64, 0x3FC64647A2ADF1A4#64⟩,
  ⟨0x007F728CCA72BDAF#64, 0x3C8E0D06FB49D219#64, 0x3FC5F04A76F88400#64⟩]

/-- Layers 176 to 191. -/
def normalLayers11 : List Layer := [
  ⟨0x007F723A50003675#64, 0x3C8E2E74C4EA46F3#64, 0x3FC59AAC88F31D74#64⟩,
  ⟨0x007F71E29F096278#64, 0x3C8E501C99C1D186#64, 0x3FC5456DA9C8683B#64⟩,
  ⟨0x007F7185970156B9#64, 0x3C8E72002F97FE23#64, 0x3FC4F08DADE31FC6#64⟩,
  ⟨0x007F7123156C1025#64, 0x3C8E94214B2ABF09#64, 0x3FC49C0C6CF5CE30#64⟩,
  ⟨0x007F70BAF5C1E2CE#64, 0x3C8EB681C0F76F08#64, 0x3FC447E9C20375D6#64⟩,
  ⟨0x007F704D1150A238#64, 0x3C8ED9237610A73A#64, 0x3FC3F4258B6931AF#64⟩,
  ⟨0x007F6FD93F1A4E5C#64, 0x3C8EFC086101ECA9#64, 0x3FC3A0BFAAE8D7EE#64⟩,
  ⟨0x007F6F5F53B10B62#64, 0x3C8F1F328AC25321#64, 0x3FC34DB805B4AB89#64⟩,
  ⟨0x007F6EDF211023EB#64, 0x3C8F42A40FB74D6D#64, 0x3FC2FB0E847C2A65#64⟩,
  ⟨0x007F6E587671CE99#64, 0x3C8F665F20C90168#64, 0x3FC2A8C3137A071B#64⟩,
  ⟨0x007F6DCB2021679D#64, 0x3C8F8A6604899782#64, 0x3FC256D5A2835EB6#64⟩,
  ⟨0x007F6D36E749C64A#64, 0x3C8FAEBB187122BF#64, 0x3FC2054625183C34#64⟩,
  ⟨0x007F6C9B91BF4C65#64, 0x3C8FD360D22FE785#64, 0x3FC1B41492757D42#64⟩,
  ⟨0x007F6BF8E1C541B2#64, 0x3C8FF859C118F60B#64, 0x3FC16340E5A82D62#64⟩,
  ⟨0x007F6B4E95CE0157#64, 0x3C900ED447D3A075#64, 0x3FC112CB1DA26EB8#64⟩,
  ⟨0x007F6A9C68356FFB#64, 0x3C9021A8028FC947#64, 0x3FC0C2B33D5209B9#64⟩]

/-- Layers 192 to 207. -/
def normalLayers12 : List Layer := [
  ⟨0x007F69E20EF52112#64, 0x3C9034A983A902AB#64, 0x3FC072F94BB8BF84#64⟩,
  ⟨0x007F691F3B517EB9#64, 0x3C9047DA4E3EF5C7#64, 0x3FC0239D54067D29#64⟩,
  ⟨0x007F6853997F321C#64, 0x3C905B3BF6ADB37E#64, 0x3FBFA93ECB6B222B#64⟩,
  ⟨0x007F677ED03FF19B#64, 0x3C906ED023A72669#64, 0x3FBF0BFF29520E16#64⟩,
  ⟨0x007F66A08075BDC0#64, 0x3C9082988F632E18#64, 0x3FBE6F7BF29AA546#64⟩,
  ⟨0x007F65B844AB75A0#64, 0x3C90969708E8A255#64, 0x3FBDD3B56176E88B#64⟩,
  ⟨0x007F64C5B0918604#64, 0x3C90AACD7571C0C5#64, 0x3FBD38ABB9BD91DC#64⟩,
  ⟨0x007F63C8506D4BC2#64, 0x3C90BF3DD1EED449#64, 0x3FBC9E5F493B7404#64⟩,
  ⟨0x007F62BFA8798FEE#64, 0x3C90D3EA34AA3D32#64, 0x3FBC04D0680B100A#64⟩,
  ⟨0x007F61AB34364B0E#64, 0x3C90E8D4CF116594#64, 0x3FBB6BFF78F2E228#64⟩,
  ⟨0x007F608A65A599A5#64, 0x3C90FDFFEFA69FB8#64, 0x3FBAD3ECE9CAF627#64⟩,
  ⟨0x007F5F5CA4737E84#64, 0x3C91136E04207043#64, 0x3FBA3C9933EA627B#64⟩,
  ⟨0x007F5E214D05B489#64, 0x3C9129219BBB5D37#64, 0x3FB9A604DC9D5B0B#64⟩,
  ⟨0x007F5CD7AF7066E1#64, 0x3C913F1D69C4096F#64, 0x3FB9103075A4A09F#64⟩,
  ⟨0x007F5B7F0E4C2A15#64, 0x3C91556448602E3D#64, 0x3FB87B1C9DBF2846#64⟩,
  ⟨0x007F5A169D68FCF0#64, 0x3C916BF93B9DEEF5#64, 0x3FB7E6CA013EEFCC#64⟩]

/-- Layers 208 to 223. -/
def normalLayers13 : List Layer := [
  ⟨0x007F589D80596A5A#64, 0x3C9182DF74D21262#64, 0x3FB753395AAA116D#64⟩,
  ⟨0x007F5712C8D01747#64, 0x3C919A1A564EEBAD#64, 0x3FB6C06B73694A46#64⟩,
  ⟨0x007F557574C912B6#64, 0x3C91B1AD777F2F8F#64, 0x3FB62E6124854D10#64⟩,
  ⟨0x007F53C46C771936#64, 0x3C91C99CA971A695#64, 0x3FB59D1B5774669D#64⟩,
  ⟨0x007F51FE7FEB9F2B#64, 0x3C91E1EBFBE4AE39#64, 0x3FB50C9B06FA2BAB#64⟩,
  ⟨0x007F5022646ECFB5#64, 0x3C91FA9FC2E2D901#64, 0x3FB47CE1401B2212#64⟩,
  ⟨0x007F4E2EB17AB1D2#64, 0x3C9213BC9D04CC82#64, 0x3FB3EDEF23269A81#64⟩,
  ⟨0x007F4C21DD4A3D19#64, 0x3C922D477A6FD3EF#64, 0x3FB35FC5E4D93E69#64⟩,
  ⟨0x007F49FA38EA3944#64, 0x3C924745A4AC9C24#64, 0x3FB2D266CF9B310D#64⟩,
  ⟨0x007F47B5EBB62EB2#64, 0x3C9261BCC77658E0#64, 0x3FB245D344DD0D8F#64⟩,
  ⟨0x007F4552EE274731#64, 0x3C927CB2FAA8592E#64, 0x3FB1BA0CBE97897E#64⟩,
  ⟨0x007F42CF03D58F51#64, 0x3C92982ECD770E78#64, 0x3FB12F14D0F2179D#64⟩,
  ⟨0x007F4027B48549FD#64, 0x3C92B437532A0A53#64, 0x3FB0A4ED2C159622#64⟩,
  ⟨0x007F3D5A44119DFA#64, 0x3C92D0D43196DB97#64, 0x3FB01B979E30E496#64⟩,
  ⟨0x007F3A63A8FB5529#64, 0x3C92EE0DB1A978F5#64, 0x3FAF262C2B6C6E33#64⟩,
  ⟨0x007F37408155100F#64, 0x3C930BECD256AEEE#64, 0x3FAE16D547B25185#64⟩]

/-- Layers 224 to 239. -/
def normalLayers14 : List Layer := [
  ⟨0x007F33ED05B55EC4#64, 0x3C932A7B5E68A4A3#64, 0x3FAD092EFEADF162#64⟩,
  ⟨0x007F3064F9C183EE#64, 0x3C9349C405AE12A3#64, 0x3FABFD3E0F282A2C#64⟩,
  ⟨0x007F2CA399C7BA11#64, 0x3C9369D27A33A840#64, 0x3FAAF30790385F6F#64⟩,
  ⟨0x007F28A384BB9401#64, 0x3C938AB39256410A#64, 0x3FA9EA90F9295561#64⟩,
  ⟨0x007F245EA1B7A2BE#64, 0x3C93AC7570AE88FA#64, 0x3FA8E3E02A68B5A9#64⟩,
  ⟨0x007F1FCDFFE8F1BA#64, 0x3C93CF27B31704A6#64, 0x3FA7DEFB77AF271C#64⟩,
  ⟨0x007F1AE9AF758CDC#64, 0x3C93F2DBAA60F475#64, 0x3FA6DBE9B398D062#64⟩,
  ⟨0x007F15A8917F27E9#64, 0x3C9417A49CB9E5DB#64, 0x3FA5DAB23CF2ADD1#64⟩,
  ⟨0x007F10001CCAAAB8#64, 0x3C943D9815545E94#64, 0x3FA4DB5D0E11275C#64⟩,
  ⟨0x007F09E413C418A2#64, 0x3C9464CE44A73A16#64, 0x3FA3DDF2CE98EEC7#64⟩,
  ⟨0x007F034627733D7B#64, 0x3C948D62759C43BD#64, 0x3FA2E27CE83DF495#64⟩,
  ⟨0x007EFC15815B8D50#64, 0x3C94B7739D6B5A28#64, 0x3FA1E9059F1F6AB6#64⟩,
  ⟨0x007EF43E2BF7F550#64, 0x3C94E3250DCD8903#64, 0x3FA0F1982E968009#64⟩,
  ⟨0x007EEBA84E31DFE8#64, 0x3C95109F53E9AC42#64, 0x3F9FF881D718A5B5#64⟩,
  ⟨0x007EE237294DF897#64, 0x3C954011523A7E43#64, 0x3F9E121ADB828C69#64⟩,
  ⟨0x007ED7C7C1701416#64, 0x3C9571B1A94AE41C#64, 0x3F9C301983CD0912#64⟩]

/-- Layers 240 to 255. -/
def normalLayers15 : List Layer := [
  ⟨0x007ECC2F0D95D3A8#64, 0x3C95A5C08B718DD9#64, 0x3F9A529F4E22EBF4#64⟩,
  ⟨0x007EBF377A467820#64, 0x3C95DC8A243AD0FE#64, 0x3F9879D1B600C10B#64⟩,
  ⟨0x007EB09D6DEB285A#64, 0x3C961669CF861E4B#64, 0x3F96A5DAF40BBF87#64⟩,
  ⟨0x007EA00A4F17808E#64, 0x3C9653CE7B006AEA#64, 0x3F94D6EAF2FBB067#64⟩,
  ⟨0x007E8D0D3DA63D61#64, 0x3C969540BE9FE5C2#64, 0x3F930D388DAB5E1A#64⟩,
  ⟨0x007E771023B0FCF5#64, 0x3C96DB6B8D09E231#64, 0x3F9149033460301A#64⟩,
  ⟨0x007E5D46C2F08D8C#64, 0x3C972728F05F7A33#64, 0x3F8F152A4F72DD53#64⟩,
  ⟨0x007E3E9376696915#64, 0x3C97799556090672#64, 0x3F8BA48D274F8FB3#64⟩,
  ⟨0x007E195978F11767#64, 0x3C97D42DF4D6CE8B#64, 0x3F8841040D8DA47E#64⟩,
  ⟨0x007DEB2C0E05C1CE#64, 0x3C9839030529F233#64, 0x3F84EB96421ACFE7#64⟩,
  ⟨0x007DB0362002A19D#64, 0x3C98AB0FBFAA7C14#64, 0x3F81A59229952F95#64⟩,
  ⟨0x007D6202C151439C#64, 0x3C992EE0946F4496#64, 0x3F7CE160F8EC683C#64⟩,
  ⟨0x007CF4B8F00A2CBB#64, 0x3C99CBEE014057AA#64, 0x3F769EA8D90CB864#64⟩,
  ⟨0x007C4FD24520EFDF#64, 0x3C9A8FDC78947759#64, 0x3F708A1F03B0B205#64⟩,
  ⟨0x007B362FBF818162#64, 0x3C9B981F3878FDB0#64, 0x3F655F9F43C1B070#64⟩,
  ⟨0x0078D2D25998E24F#64, 0x3C9D3BB48209AD33#64, 0x3F54A605B6B9F70D#64⟩]

/-- The normal table set in blocks of 16 layers. -/
def normalBlocks : List (List Layer) :=
  [normalLayers0, normalLayers1, normalLayers2, normalLayers3, normalLayers4, normalLayers5, normalLayers6, normalLayers7,
   normalLayers8, normalLayers9, normalLayers10, normalLayers11, normalLayers12, normalLayers13, normalLayers14, normalLayers15]

/-- Layer i of the normal table set, `i` in 0..255 (R126). -/
def normalLayer (i : Nat) : Layer := (normalBlocks.getD (i / 16) []).getD (i % 16) ⟨0#64, 0#64, 0#64⟩

/-- `RN`, the tail constant. -/
def normalTail : Word := 0x400D3BB48209AD33#64

end Sys2Proof.Machine
end

