-- ==== Sys2Proof/Machine/RomExponential.lean ====
section
/-! DEFINITION. The table ROM of the exponential distribution: `KE`, `WE`, `FE` and `RE`, copied digit for digit from the
table of spec/46_ziggurat_tables_exponential.md (R155, R156). Each row is one layer: threshold, strip width, density at the strip boundary. -/

namespace Sys2Proof.Machine

/-- Layers 0 to 15. -/
def exponentialLayers0 : List Layer := [
  ⟨0x00E290A13924BE3E#64, 0x3CA164EC94BF5DC1#64, 0x3FF0000000000000#64⟩,
  ⟨0x0000000000000000#64, 0x3C30589D8B5D4119#64, 0x3FEE0545E5881137#64⟩,
  ⟨0x009BEADEBCE18BFF#64, 0x3C3AD6B2495B4D2B#64, 0x3FECD0A65081FFF1#64⟩,
  ⟨0x00C377AC71F9E080#64, 0x3C419335A95B8DBA#64, 0x3FEBE5007BEB7B27#64⟩,
  ⟨0x00D4DDB990758571#64, 0x3C4522E6E54A2A73#64, 0x3FEB210F0EE67F2A#64⟩,
  ⟨0x00DE893FB8CA23E5#64, 0x3C485090FBC27A80#64, 0x3FEA76BAA562FAE7#64⟩,
  ⟨0x00E4A8E87C4328DB#64, 0x3C4B38D1EF79B7CC#64, 0x3FE9DE9715556D9B#64⟩,
  ⟨0x00E8DFF16AE1CB9E#64, 0x3C4DECD8B76DBD98#64, 0x3FE95431C455AA39#64⟩,
  ⟨0x00EBF2DEAB58C59C#64, 0x3C503BF049C65C3C#64, 0x3FE8D4A376D3D22F#64⟩,
  ⟨0x00EE49A6E8B9638D#64, 0x3C5170DB24D6F670#64, 0x3FE85DE87806C5B8#64⟩,
  ⟨0x00F0204EFD64EE4F#64, 0x3C52980290DA2633#64, 0x3FE7EE8A2D243126#64⟩,
  ⟨0x00F19BDB8EA3C1BA#64, 0x3C53B388FE3D6ECA#64, 0x3FE7856E9B09D47E#64⟩,
  ⟨0x00F2D458BBE5BD19#64, 0x3C54C515C60BFE21#64, 0x3FE721BB5BA94B63#64⟩,
  ⟨0x00F3DA104B782365#64, 0x3C55CDF89D024AC3#64, 0x3FE6C2C3498418C6#64⟩,
  ⟨0x00F4B86D784571F0#64, 0x3C56CF40F0A72BBD#64, 0x3FE667FA6D4F5C06#64⟩,
  ⟨0x00F577AD8A7784F5#64, 0x3C57C9CDDA17D019#64, 0x3FE610EDC1A7AF66#64⟩]

/-- Layers 16 to 31. -/
def exponentialLayers1 : List Layer := [
  ⟨0x00F61DE83DA32ABC#64, 0x3C58BE5954D3606F#64, 0x3FE5BD3D694CAC75#64⟩,
  ⟨0x00F6AFB7843CCE75#64, 0x3C59AD80552237D2#64, 0x3FE56C9882DA8773#64⟩,
  ⟨0x00F730A57372B445#64, 0x3C5A97C8BE5D5203#64, 0x3FE51EBA1578899A#64⟩,
  ⟨0x00F7A37651B0E683#64, 0x3C5B7DA5DDDDA3C4#64, 0x3FE4D366C151F8AF#64⟩,
  ⟨0x00F80A5BB6EEA520#64, 0x3C5C5F7BD78C3F89#64, 0x3FE48A6AFB8EE069#64⟩,
  ⟨0x00F867189D3CB5B9#64, 0x3C5D3DA24DF17C36#64, 0x3FE44399AFA8E125#64⟩,
  ⟨0x00F8BB1B4F8FBBD6#64, 0x3C5E186678F1735A#64, 0x3FE3FECB2BB18B80#64⟩,
  ⟨0x00F9079062292B8D#64, 0x3C5EF00CCF5F4FAA#64, 0x3FE3BBDC44E1D114#64⟩,
  ⟨0x00F94D70CA8D43A6#64, 0x3C5FC4D25D683209#64, 0x3FE37AADA708DDD9#64⟩,
  ⟨0x00F98D8C7DCAA993#64, 0x3C604B76ED6A7558#64, 0x3FE33B23450E6318#64⟩,
  ⟨0x00F9C8928ABE0832#64, 0x3C60B348479B80FC#64, 0x3FE2FD23E345DA5E#64⟩,
  ⟨0x00F9FF175B734A65#64, 0x3C6119F38749F5AF#64, 0x3FE2C098B61F4F24#64⟩,
  ⟨0x00FA319996BC47D9#64, 0x3C617F8CEB4BDFA0#64, 0x3FE2856D111132BD#64⟩,
  ⟨0x00FA6085F8E9D07C#64, 0x3C61E426E93E49E7#64, 0x3FE24B8E228C50A3#64⟩,
  ⟨0x00FA8C3A62E19915#64, 0x3C6247D26538FF2E#64, 0x3FE212EABA813EC8#64⟩,
  ⟨0x00FAB5084E1F6600#64, 0x3C62AA9EE123680B#64, 0x3FE1DB7319877B89#64⟩]

/-- Layers 32 to 47. -/
def exponentialLayers2 : List Layer := [
  ⟨0x00FADB36C84CCCB6#64, 0x3C630C9AA526DA4B#64, 0x3FE1A518C71E3B25#64⟩,
  ⟨0x00FAFF0410868464#64, 0x3C636DD2E26D8202#64, 0x3FE16FCE6DCE6FEE#64⟩,
  ⟨0x00FB20A6EA22BB90#64, 0x3C63CE53D12162A0#64, 0x3FE13B87BC33169C#64⟩,
  ⟨0x00FB404FB42CB3CD#64, 0x3C642E28CA706748#64, 0x3FE108394A1CC38D#64⟩,
  ⟨0x00FB5E295158173A#64, 0x3C648D5C5F35E712#64, 0x3FE0D5D8812B1E2B#64⟩,
  ⟨0x00FB7A59E99727A0#64, 0x3C64EBF86BCD0B93#64, 0x3FE0A45B8854D02A#64⟩,
  ⟨0x00FB95038C8789D3#64, 0x3C654A0629786F4D#64, 0x3FE073B931EE3B7D#64⟩,
  ⟨0x00FBAE44BA684EB9#64, 0x3C65A78E3DB8BEFD#64, 0x3FE043E8EBD26548#64⟩,
  ⟨0x00FBC638D822E606#64, 0x3C660498C7DD2ECF#64, 0x3FE014E2B160F324#64⟩,
  ⟨0x00FBDCF89209FFAF#64, 0x3C66612D6D0C68E0#64, 0x3FDFCD3DFE214576#64⟩,
  ⟨0x00FBF29A303CFC53#64, 0x3C66BD5362FAA944#64, 0x3FDF722D8EBFC5FA#64⟩,
  ⟨0x00FC0731DF1089C8#64, 0x3C671911797990BB#64, 0x3FDF1886D1EB424D#64⟩,
  ⟨0x00FC1AD1ED6C8B12#64, 0x3C67746E23077973#64, 0x3FDEC03D4B969D90#64⟩,
  ⟨0x00FC2D8B02B5C89C#64, 0x3C67CF6F7C7E8172#64, 0x3FDE6945367DD351#64⟩,
  ⟨0x00FC3F6C4D921317#64, 0x3C682A1B53FED599#64, 0x3FDE139375E137FC#64⟩,
  ⟨0x00FC5083AC9BA7D6#64, 0x3C6884772F2BE1EC#64, 0x3FDDBF1D88A7210C#64⟩]

/-- Layers 48 to 63. -/
def exponentialLayers3 : List Layer := [
  ⟨0x00FC60DDD1E9CD6A#64, 0x3C68DE8850D0C52A#64, 0x3FDD6BD97DB9ED7A#64⟩,
  ⟨0x00FC7086622E8252#64, 0x3C693853BDFDA244#64, 0x3FDD19BDE97E1A0B#64⟩,
  ⟨0x00FC7F881009F0BB#64, 0x3C6991DE42AD1338#64, 0x3FDCC8C1DC40E092#64⟩,
  ⟨0x00FC8DECB41AC708#64, 0x3C69EB2C75FF03BF#64, 0x3FDC78DCD983FB60#64⟩,
  ⟨0x00FC9BBD623D7EC1#64, 0x3C6A4442BE14884A#64, 0x3FDC2A06D00EA583#64⟩,
  ⟨0x00FCA9027C5B26D9#64, 0x3C6A9D255396D261#64, 0x3FDBDC3812AEEEB5#64⟩,
  ⟨0x00FCB5C3C319C495#64, 0x3C6AF5D844F224C9#64, 0x3FDB8F6951990B88#64⟩,
  ⟨0x00FCC20864B44492#64, 0x3C6B4E5F794C979B#64, 0x3FDB43939454806F#64⟩,
  ⟨0x00FCCDD70A35D40B#64, 0x3C6BA6BEB33F8F89#64, 0x3FDAF8B03428EF5F#64⟩,
  ⟨0x00FCD935E34BF804#64, 0x3C6BFEF99359FE99#64, 0x3FDAAEB8D6FDF6E5#64⟩,
  ⟨0x00FCE42AB0DB8BD4#64, 0x3C6C57139A70D29F#64, 0x3FDA65A76AA30140#64⟩,
  ⟨0x00FCEEBACE7EC01C#64, 0x3C6CAF102BC25ADB#64, 0x3FDA1D76207521F4#64⟩,
  ⟨0x00FCF8EB3B0D0E76#64, 0x3C6D06F28EF0E6FB#64, 0x3FD9D61F695A3792#64⟩,
  ⟨0x00FD02C0A049B607#64, 0x3C6D5EBDF1D86B8D#64, 0x3FD98F9DF2097BA8#64⟩,
  ⟨0x00FD0C3F59D199CE#64, 0x3C6DB6756A429057#64, 0x3FD949EC9F9A8110#64⟩,
  ⟨0x00FD156B7B5E27E6#64, 0x3C6E0E1BF77C31FE#64, 0x3FD905068C545D04#64⟩]

/-- Layers 64 to 79. -/
def exponentialLayers4 : List Layer := [
  ⟨0x00FD1E48D670341C#64, 0x3C6E65B483CF1044#64, 0x3FD8C0E704B75D39#64⟩,
  ⟨0x00FD26DAFF73551C#64, 0x3C6EBD41E5E21B62#64, 0x3FD87D8984BC3F8C#64⟩,
  ⟨0x00FD2F2552684BEC#64, 0x3C6F14C6E202949F#64, 0x3FD83AE9B5446138#64⟩,
  ⟨0x00FD372AF7233C1C#64, 0x3C6F6C462B57FEB5#64, 0x3FD7F90369B6CE59#64⟩,
  ⟨0x00FD3EEEE528F625#64, 0x3C6FC3C26504A9A1#64, 0x3FD7B7D29DC6801E#64⟩,
  ⟨0x00FD4673E73543AE#64, 0x3C700D9F119A3CD9#64, 0x3FD77753735E72E3#64⟩,
  ⟨0x00FD4DBC9E72FF7D#64, 0x3C70395DF60DB162#64, 0x3FD7378230B08DEA#64⟩,
  ⟨0x00FD54CB856DC2C4#64, 0x3C70651F1C7276F8#64, 0x3FD6F85B3E649E9D#64⟩,
  ⟨0x00FD5BA2F2C41193#64, 0x3C7090E3BB4B0072#64, 0x3FD6B9DB25E4E99C#64⟩,
  ⟨0x00FD62451BA02C2F#64, 0x3C70BCAD03710137#64, 0x3FD67BFE8FC60D9F#64⟩,
  ⟨0x00FD68B415FCFF4F#64, 0x3C70E87C207A2F66#64, 0x3FD63EC2424827E4#64⟩,
  ⟨0x00FD6EF1DABC160D#64, 0x3C7114523917AC15#64, 0x3FD602231FEF5876#64⟩,
  ⟨0x00FD75004790EB69#64, 0x3C7140306F707DBE#64, 0x3FD5C61E2631EE6C#64⟩,
  ⟨0x00FD7AE120C583F7#64, 0x3C716C17E1777FFB#64, 0x3FD58AB06C3AA9EF#64⟩,
  ⟨0x00FD809612DBD09E#64, 0x3C719809A93D2396#64, 0x3FD54FD721BDA3E7#64⟩,
  ⟨0x00FD8620B40EFFA2#64, 0x3C71C406DD3D5283#64, 0x3FD5158F8DDE89F5#64⟩]

/-- Layers 80 to 95. -/
def exponentialLayers5 : List Layer := [
  ⟨0x00FD8B8285B78FDB#64, 0x3C71F01090A9C4E2#64, 0x3FD4DBD70E26F91D#64⟩,
  ⟨0x00FD90BCF594B1D6#64, 0x3C721C27D3B10E05#64, 0x3FD4A2AB158BDAD3#64⟩,
  ⟨0x00FD95D15EFD425D#64, 0x3C72484DB3C2A329#64, 0x3FD46A092B80BEEF#64⟩,
  ⟨0x00FD9AC10BFA70C7#64, 0x3C7274833BD0189F#64, 0x3FD431EEEB1841E2#64⟩,
  ⟨0x00FD9F8D364DF061#64, 0x3C72A0C9748BCDAA#64, 0x3FD3FA5A0230A14E#64⟩,
  ⟨0x00FDA437086566B9#64, 0x3C72CD2164A53B5D#64, 0x3FD3C34830ABB285#64⟩,
  ⟨0x00FDA8BF9E3C9FE9#64, 0x3C72F98C11031721#64, 0x3FD38CB747B17DEF#64⟩,
  ⟨0x00FDAD28062FED55#64, 0x3C73260A7CFB7611#64, 0x3FD356A528FCD0DD#64⟩,
  ⟨0x00FDB17141BFF2CB#64, 0x3C73529DAA8A1BA1#64, 0x3FD3210FC6312435#64⟩,
  ⟨0x00FDB59C46480854#64, 0x3C737F469A851AF0#64, 0x3FD2EBF520394270#64⟩,
  ⟨0x00FDB9A9FDA83CC9#64, 0x3C73AC064CCFEFFC#64, 0x3FD2B75346AE2262#64⟩,
  ⟨0x00FDBD9B46E3ED47#64, 0x3C73D8DDC08D336D#64, 0x3FD2832857457629#64⟩,
  ⟨0x00FDC170F6B5D049#64, 0x3C7405CDF44F09C4#64, 0x3FD24F727D4776FD#64⟩,
  ⟨0x00FDC52BD81A3FB1#64, 0x3C7432D7E6466CD0#64, 0x3FD21C2FF10B7EFF#64⟩,
  ⟨0x00FDC8CCACD07BA1#64, 0x3C745FFC94716CA7#64, 0x3FD1E95EF77B09DB#64⟩,
  ⟨0x00FDCC542DD39020#64, 0x3C748D3CFCC883C4#64, 0x3FD1B6FDE19ABC5A#64⟩]

/-- Layers 96 to 111. -/
def exponentialLayers6 : List Layer := [
  ⟨0x00FDCFC30BCB7939#64, 0x3C74BA9A1D6B18A4#64, 0x3FD1850B0C191982#64⟩,
  ⟨0x00FDD319EF771433#64, 0x3C74E814F4CB45EA#64, 0x3FD15384DEE291EF#64⟩,
  ⟨0x00FDD6597A0F60BD#64, 0x3C7515AE81D900FB#64, 0x3FD12269CCBA9FBA#64⟩,
  ⟨0x00FDD98245A48A29#64, 0x3C754367C42CB5F8#64, 0x3FD0F1B852D9A66C#64⟩,
  ⟨0x00FDDC94E5752716#64, 0x3C757141BC316F27#64, 0x3FD0C16EF88F5333#64⟩,
  ⟨0x00FDDF91E64014F1#64, 0x3C759F3D6B4E9CF9#64, 0x3FD0918C4EE93E13#64⟩,
  ⟨0x00FDE279CE914CAE#64, 0x3C75CD5BD4119335#64, 0x3FD0620EF05D90D2#64⟩,
  ⟨0x00FDE54D1F0A06AD#64, 0x3C75FB9DFA56CF26#64, 0x3FD032F580797C2C#64⟩,
  ⟨0x00FDE80C52A47CFA#64, 0x3C762A04E3731A2E#64, 0x3FD0043EAB93476A#64⟩,
  ⟨0x00FDEAB7DEF394E6#64, 0x3C765891965C9B8C#64, 0x3FCFABD24CFF9354#64⟩,
  ⟨0x00FDED50345EB35C#64, 0x3C7687451BD3EBEE#64, 0x3FCF4FE75C963E7E#64⟩,
  ⟨0x00FDEFD5BE59FA0F#64, 0x3C76B6207E8D3CDF#64, 0x3FCEF4BA0FE8E09B#64⟩,
  ⟨0x00FDF248E39B26F3#64, 0x3C76E524CB59A608#64, 0x3FCE9A48005940F2#64⟩,
  ⟨0x00FDF4AA064B4AFE#64, 0x3C7714531150A9FB#64, 0x3FCE408ED62F83A7#64⟩,
  ⟨0x00FDF6F984358945#64, 0x3C7743AC61FA041C#64, 0x3FCDE78C48224F39#64⟩,
  ⟨0x00FDF937B6F30BAA#64, 0x3C777331D177D130#64, 0x3FCD8F3E1AE3EEB8#64⟩]

/-- Layers 112 to 127. -/
def exponentialLayers7 : List Layer := [
  ⟨0x00FDFB64F414571D#64, 0x3C77A2E476B1240A#64, 0x3FCD37A220B431FD#64⟩,
  ⟨0x00FDFD818D482624#64, 0x3C77D2C56B7D17F7#64, 0x3FCCE0B638F6D09F#64⟩,
  ⟨0x00FDFF8DD07FED87#64, 0x3C7802D5CCCE7277#64, 0x3FCC8A784FCE1802#64⟩,
  ⟨0x00FE018A08122C48#64, 0x3C783316BADFE62A#64, 0x3FCC34E65DB9AFEE#64⟩,
  ⟨0x00FE03767ADAA59C#64, 0x3C786389596108E7#64, 0x3FCBDFFE67394435#64⟩,
  ⟨0x00FE05536C58A13E#64, 0x3C78942ECFA40F54#64, 0x3FCB8BBE7C72E4A5#64⟩,
  ⟨0x00FE07211CCB4C53#64, 0x3C78C50848CC6094#64, 0x3FCB3824B8DCEF3E#64⟩,
  ⟨0x00FE08DFC94C5327#64, 0x3C78F616F3FE1513#64, 0x3FCAE52F42EB5B0B#64⟩,
  ⟨0x00FE0A8FABE8CA18#64, 0x3C79275C048E73E1#64, 0x3FCA92DC4BC03C49#64⟩,
  ⟨0x00FE0C30FBB87A5B#64, 0x3C7958D8B235828A#64, 0x3FCA412A0EDF5CBC#64⟩,
  ⟨0x00FE0DC3ECF3A5A1#64, 0x3C798A8E3940BBF4#64, 0x3FC9F016D1E4C512#64⟩,
  ⟨0x00FE0F48B107521A#64, 0x3C79BC7DDAC7035D#64, 0x3FC99FA0E43E1623#64⟩,
  ⟨0x00FE10BF76A82EF1#64, 0x3C79EEA8DCDDE951#64, 0x3FC94FC69EE692A1#64⟩,
  ⟨0x00FE122869E41FFB#64, 0x3C7A21108AD0592D#64, 0x3FC900866425BB79#64⟩,
  ⟨0x00FE1383B4327E15#64, 0x3C7A53B63556C690#64, 0x3FC8B1DE9F5062D5#64⟩,
  ⟨0x00FE14D17C83187B#64, 0x3C7A869B32D0F30F#64, 0x3FC863CDC48C1AF9#64⟩]

/-- Layers 128 to 143. -/
def exponentialLayers8 : List Layer := [
  ⟨0x00FE1611E74C0231#64, 0x3C7AB9C0DF81657A#64, 0x3FC816525094E7E6#64⟩,
  ⟨0x00FE1745169635A2#64, 0x3C7AED289DCAACFF#64, 0x3FC7C96AC8851BAE#64⟩,
  ⟨0x00FE186B2A09176F#64, 0x3C7B20D3D66E8BB5#64, 0x3FC77D15B99F46FE#64⟩,
  ⟨0x00FE19843EF4E078#64, 0x3C7B54C3F8CF2542#64, 0x3FC73151B91A2839#64⟩,
  ⟨0x00FE1A90705BF63E#64, 0x3C7B88FA7B324FB6#64, 0x3FC6E61D63EE84EA#64⟩,
  ⟨0x00FE1B8FD6FB37C5#64, 0x3C7BBD78DB072610#64, 0x3FC69B775EA6DA28#64⟩,
  ⟨0x00FE1C828951443B#64, 0x3C7BF2409D2DFD85#64, 0x3FC6515E5530D1AC#64⟩,
  ⟨0x00FE1D689BA4BFD0#64, 0x3C7C27534E42E02D#64, 0x3FC607D0FAB06A31#64⟩,
  ⟨0x00FE1E4220099A48#64, 0x3C7C5CB282EAB1A4#64, 0x3FC5BECE0954C2B6#64⟩,
  ⟨0x00FE1F0F26655A00#64, 0x3C7C925FD82323FB#64, 0x3FC57654422E78F5#64⟩,
  ⟨0x00FE1FCFBC726D43#64, 0x3C7CC85CF395A56C#64, 0x3FC52E626D078C49#64⟩,
  ⟨0x00FE2083EDC28309#64, 0x3C7CFEAB83ED7180#64, 0x3FC4E6F7583CB6FA#64⟩,
  ⟨0x00FE212BC3BFEB45#64, 0x3C7D354D4130F2AD#64, 0x3FC4A011D8983096#64⟩,
  ⟨0x00FE21C745ADFE3A#64, 0x3C7D6C43ED1EA3FE#64, 0x3FC459B0C92DCCC6#64⟩,
  ⟨0x00FE225678A88954#64, 0x3C7DA391538DA50A#64, 0x3FC413D30B386A9A#64⟩,
  ⟨0x00FE22D95FA23F44#64, 0x3C7DDB374AD2357F#64, 0x3FC3CE7785F8A905#64⟩]

/-- Layers 144 to 159. -/
def exponentialLayers9 : List Layer := [
  ⟨0x00FE234FFB622823#64, 0x3C7E1337B426509B#64, 0x3FC3899D2694D5C9#64⟩,
  ⟨0x00FE23BA4A800D94#64, 0x3C7E4B947C16A452#64, 0x3FC34542DFFA0CAF#64⟩,
  ⟨0x00FE2418495FDDCF#64, 0x3C7E844F9AF4237F#64, 0x3FC30167AABE7D6E#64⟩,
  ⟨0x00FE2469F22BFFB6#64, 0x3C7EBD6B154A7678#64, 0x3FC2BE0A8504CF34#64⟩,
  ⟨0x00FE24AF3CCE90DB#64, 0x3C7EF6E8FC5B9168#64, 0x3FC27B2A72609940#64⟩,
  ⟨0x00FE24E81EE9858B#64, 0x3C7F30CB6EA0BC7F#64, 0x3FC238C67BBBE878#64⟩,
  ⟨0x00FE25148BCDA19F#64, 0x3C7F6B1498515ED0#64, 0x3FC1F6DDAF3DCA65#64⟩,
  ⟨0x00FE253474703FE1#64, 0x3C7FA5C6B3EFE1E5#64, 0x3FC1B56F2031D666#64⟩,
  ⟨0x00FE2547C75FDC63#64, 0x3C7FE0E40ADD09D8#64, 0x3FC17479E6F0AE78#64⟩,
  ⟨0x00FE254E70B754FB#64, 0x3C800E377AF911D4#64, 0x3FC133FD20C9712F#64⟩,
  ⟨0x00FE25485A0FD1A6#64, 0x3C802C34EF11391B#64, 0x3FC0F3F7EFEC1720#64⟩,
  ⟨0x00FE25356A714505#64, 0x3C804A6B9E9224A3#64, 0x3FC0B4697B54B62F#64⟩,
  ⟨0x00FE2515864173AA#64, 0x3C8068DCCF1126DB#64, 0x3FC07550EEB7A5BE#64⟩,
  ⟨0x00FE24E88F316F1D#64, 0x3C808789CF3AAD0F#64, 0x3FC036AD7A6E7F04#64⟩,
  ⟨0x00FE24AE64296FAB#64, 0x3C80A673F733C819#64, 0x3FBFF0FCA6CBEA8D#64⟩,
  ⟨0x00FE2466E132F60A#64, 0x3C80C59CA900946F#64, 0x3FBF758566190414#64⟩]

/-- Layers 160 to 175. -/
def exponentialLayers10 : List Layer := [
  ⟨0x00FE2411DF611BD2#64, 0x3C80E50550EFCFB7#64, 0x3FBEFAF3AE83C33C#64⟩,
  ⟨0x00FE23AF34B6F736#64, 0x3C8104AF660BEFCE#64, 0x3FBE8146048EB9CC#64⟩,
  ⟨0x00FE233EB40BF41B#64, 0x3C81249C6A92154A#64, 0x3FBE087AF561BAFB#64⟩,
  ⟨0x00FE22C02CEE01BC#64, 0x3C8144CDEC6F3A2B#64, 0x3FBD909116AD9398#64⟩,
  ⟨0x00FE22336B81710D#64, 0x3C81654585C404C1#64, 0x3FBD198706914DD7#64⟩,
  ⟨0x00FE2198385E5CC9#64, 0x3C818604DD6FAE9E#64, 0x3FBCA35B6B80FD57#64⟩,
  ⟨0x00FE20EE586B7076#64, 0x3C81A70DA7A27820#64, 0x3FBC2E0CF42E10AF#64⟩,
  ⟨0x00FE20358CB5DFBD#64, 0x3C81C861A6782A5A#64, 0x3FBBB99A5771268F#64⟩,
  ⟨0x00FE1F6D92465B10#64, 0x3C81EA02AA9B3370#64, 0x3FBB460254356548#64⟩,
  ⟨0x00FE1E9621F2C9E7#64, 0x3C820BF293F0F4A2#64, 0x3FBAD343B1655465#64⟩,
  ⟨0x00FE1DAEF02C8DA5#64, 0x3C822E33524FE550#64, 0x3FBA615D3DD938B7#64⟩,
  ⟨0x00FE1CB7ACCB0A64#64, 0x3C8250C6E6403BBA#64, 0x3FB9F04DD046F428#64⟩,
  ⟨0x00FE1BB002D22C9A#64, 0x3C8273AF61C7DAA6#64, 0x3FB9801447336B70#64⟩,
  ⟨0x00FE1A9798349B8E#64, 0x3C8296EEE942532B#64, 0x3FB910AF88E574B9#64⟩,
  ⟨0x00FE196E0D9140CD#64, 0x3C82BA87B445DB51#64, 0x3FB8A21E835A533B#64⟩,
  ⟨0x00FE1832FDEBC444#64, 0x3C82DE7C0E962D70#64, 0x3FB834602C3BC4BA#64⟩]

/-- Layers 176 to 191. -/
def exponentialLayers11 : List Layer := [
  ⟨0x00FE16E5FE5F931A#64, 0x3C8302CE59265965#64, 0x3FB7C77380D7A6F3#64⟩,
  ⟨0x00FE15869DCCFCF6#64, 0x3C8327810B2AA7D0#64, 0x3FB75B5786193C1E#64⟩,
  ⟨0x00FE1414647FE785#64, 0x3C834C96B33BC965#64, 0x3FB6F00B488416B6#64⟩,
  ⟨0x00FE128ED3CF8B20#64, 0x3C837211F88CA856#64, 0x3FB6858DDC30B620#64⟩,
  ⟨0x00FE10F565B69CF4#64, 0x3C8397F59C345143#64, 0x3FB61BDE5CCADEF7#64⟩,
  ⟨0x00FE0F478C633AB4#64, 0x3C83BE447A8D8B83#64, 0x3FB5B2FBED91BB3E#64⟩,
  ⟨0x00FE0D84B1BDD9E7#64, 0x3C83E5018CADDED0#64, 0x3FB54AE5B959D036#64⟩,
  ⟨0x00FE0BAC36E66881#64, 0x3C840C2FE9F5EEAD#64, 0x3FB4E39AF290D929#64⟩,
  ⟨0x00FE09BD73A6B5BD#64, 0x3C8433D2C9BD42F8#64, 0x3FB47D1AD343985C#64⟩,
  ⟨0x00FE07B7B5D920AA#64, 0x3C845BED851BC92C#64, 0x3FB417649D25B10E#64⟩,
  ⟨0x00FE059A40C26D23#64, 0x3C84848398D39432#64, 0x3FB3B277999B9F9E#64⟩,
  ⟨0x00FE03644C5D7F8B#64, 0x3C84AD98A75DA14C#64, 0x3FB34E5319C6E718#64⟩,
  ⟨0x00FE011504979B29#64, 0x3C84D7307B1CB127#64, 0x3FB2EAF676948DD1#64⟩,
  ⟨0x00FDFEAB887B95C9#64, 0x3C85014F08B99508#64, 0x3FB2886110CE0570#64⟩,
  ⟨0x00FDFC26E94A447B#64, 0x3C852BF871ACAAB2#64, 0x3FB22692512C9D8C#64⟩,
  ⟨0x00FDF986297E305E#64, 0x3C85573106F8A75A#64, 0x3FB1C589A86FA340#64⟩]

/-- Layers 192 to 207. -/
def exponentialLayers12 : List Layer := [
  ⟨0x00FDF6C83BB86634#64, 0x3C8582FD4C1B4461#64, 0x3FB165468F755392#64⟩,
  ⟨0x00FDF3EC0193EED9#64, 0x3C85AF61FA38E107#64, 0x3FB105C88756CA50#64⟩,
  ⟨0x00FDF0F04A5D30A5#64, 0x3C85DC640388BD9E#64, 0x3FB0A70F19871B3B#64⟩,
  ⟨0x00FDEDD3D1AA2041#64, 0x3C860A0897081879#64, 0x3FB04919D7F5C817#64⟩,
  ⟨0x00FDEA953DCFC136#64, 0x3C863855247B2E94#64, 0x3FAFD7D0BA699676#64⟩,
  ⟨0x00FDE7331E3100DA#64, 0x3C86674F60C3F432#64, 0x3FAF1EF49944E834#64⟩,
  ⟨0x00FDE3ABE9626F2F#64, 0x3C8696FD4A9748EE#64, 0x3FAE679EA52EB2E5#64⟩,
  ⟨0x00FDDFFDFB1DBD54#64, 0x3C86C7652F9A7B1E#64, 0x3FADB1CE49315810#64⟩,
  ⟨0x00FDDC2791FF3515#64, 0x3C86F88DB1F42507#64, 0x3FACFD83031E794A#64⟩,
  ⟨0x00FDD826CD068C6C#64, 0x3C872A7DCE5CD218#64, 0x3FAC4ABC640721E9#64⟩,
  ⟨0x00FDD3F9A8D3856C#64, 0x3C875D3CE2BD71C3#64, 0x3FAB997A10BED985#64⟩,
  ⟨0x00FDCF9DFC95B0CD#64, 0x3C8790D2B56B71F9#64, 0x3FAAE9BBC26A8084#64⟩,
  ⟨0x00FDCB1176A55FE0#64, 0x3C87C5477D1476D3#64, 0x3FAA3B81471BF138#64⟩,
  ⟨0x00FDC65198BA50BB#64, 0x3C87FAA3E96E1412#64, 0x3FA98ECA827B7C4C#64⟩,
  ⟨0x00FDC15BB3B2DAA0#64, 0x3C8830F12CC0BEC3#64, 0x3FA8E3976E80776D#64⟩,
  ⟨0x00FDBC2CE2DC4AE6#64, 0x3C88683906687342#64, 0x3FA839E81C3A396B#64⟩]

/-- Layers 208 to 223. -/
def exponentialLayers13 : List Layer := [
  ⟨0x00FDB6C206AAACA1#64, 0x3C88A085CE695BAB#64, 0x3FA791BCB4AB089E#64⟩,
  ⟨0x00FDB117BECB4A1B#64, 0x3C88D9E2823B3695#64, 0x3FA6EB1579B6AF52#64⟩,
  ⟨0x00FDAB2A6379BF0E#64, 0x3C89145AD2F37544#64, 0x3FA645F2C726A041#64⟩,
  ⟨0x00FDA4F5FDFB4E90#64, 0x3C894FFB34FC2A0E#64, 0x3FA5A25513C5D2CA#64⟩,
  ⟨0x00FD9E76401F3A38#64, 0x3C898CD0F18D1AD8#64, 0x3FA5003CF296C5EB#64⟩,
  ⟨0x00FD97A67A9CE1FF#64, 0x3C89CAEA3A24D9EA#64, 0x3FA45FAB14266B19#64⟩,
  ⟨0x00FD90819221429E#64, 0x3C8A0A563E49F178#64, 0x3FA3C0A047FF18FF#64⟩,
  ⟨0x00FD8901F2D4B024#64, 0x3C8A4B2543E84C3B#64, 0x3FA3231D7E3F14AE#64⟩,
  ⟨0x00FD812182170E13#64, 0x3C8A8D68C2AD86EA#64, 0x3FA28723C956C00C#64⟩,
  ⟨0x00FD78D98E23CD3C#64, 0x3C8AD13382D845C4#64, 0x3FA1ECB45FF312D4#64⟩,
  ⟨0x00FD7022BB3F082C#64, 0x3C8B1699C003B60A#64, 0x3FA153D09F19B3A1#64⟩,
  ⟨0x00FD66F4EDF96B9F#64, 0x3C8B5DB15091EA0F#64, 0x3FA0BC7A0C7CD651#64⟩,
  ⟨0x00FD5D4732003058#64, 0x3C8BA691D276DA5E#64, 0x3FA026B2590DFAEE#64⟩,
  ⟨0x00FD530F9CCFF944#64, 0x3C8BF154DE4BEF77#64, 0x3F9F24F6C7AF9890#64⟩,
  ⟨0x00FD48432B7B3515#64, 0x3C8C3E1641C2E0A7#64, 0x3F9DFFAE7A517468#64⟩,
  ⟨0x00FD3CD59A8469E9#64, 0x3C8C8CF442C8C8F4#64, 0x3F9CDD9054331B0C#64⟩]

/-- Layers 224 to 239. -/
def exponentialLayers14 : List Layer := [
  ⟨0x00FD30B9368F90A0#64, 0x3C8CDE0FECF2A97F#64, 0x3F9BBEA150FA5870#64⟩,
  ⟨0x00FD23DEA45F5000#64, 0x3C8D318D6B2738C5#64, 0x3F9AA2E6E6924E9B#64⟩,
  ⟨0x00FD16349E2E04AA#64, 0x3C8D87946FEC3BEC#64, 0x3F998A670F132A48#64⟩,
  ⟨0x00FD07A7A3EF98AF#64, 0x3C8DE050AF4EF19F#64, 0x3F98752853EC9967#64⟩,
  ⟨0x00FCF8219B5DF059#64, 0x3C8E3BF26E190960#64, 0x3F976331DA87FC96#64⟩,
  ⟨0x00FCE7895BCFCDEB#64, 0x3C8E9AAF2AF383C1#64, 0x3F96548B72A24077#64⟩,
  ⟨0x00FCD5C220AD5E29#64, 0x3C8EFCC26750EA4A#64, 0x3F95493DA6AB0251#64⟩,
  ⟨0x00FCC2AADBC17DCB#64, 0x3C8F626E9791F7A7#64, 0x3F944151CE87F0BE#64⟩,
  ⟨0x00FCAE1D5E81FBCF#64, 0x3C8FCBFE43F6C6E5#64, 0x3F933CD225315D84#64⟩,
  ⟨0x00FC97ED4E778F98#64, 0x3C901CE2B362EC2E#64, 0x3F923BC9E1B93A32#64⟩,
  ⟨0x00FC7FE6D4D720E9#64, 0x3C9056118BF58EEF#64, 0x3F913E4554725F5F#64⟩,
  ⟨0x00FC65CCF39C2FC0#64, 0x3C9091C1CDCBA54E#64, 0x3F904452091E02F0#64⟩,
  ⟨0x00FC4957623CB03B#64, 0x3C90D031785D48A0#64, 0x3F8E9BFDDE89C7CE#64⟩,
  ⟨0x00FC2A2FC826DC79#64, 0x3C9111A8034392A6#64, 0x3F8CB6B9146E2757#64⟩,
  ⟨0x00FC07EE19B01CDA#64, 0x3C9156786775442A#64, 0x3F8AD8FA5542C92D#64⟩,
  ⟨0x00FBE213C1CF4931#64, 0x3C919F03BCB3C2D6#64, 0x3F8902EA688FA7BD#64⟩]

/-- Layers 240 to 255. -/
def exponentialLayers15 : List Layer := [
  ⟨0x00FBB8051AC15666#64, 0x3C91EBBCA0C9FA7C#64, 0x3F8734B6E6AA74F5#64⟩,
  ⟨0x00FB890078D120E7#64, 0x3C923D2BB659919F#64, 0x3F856E930BE416CB#64⟩,
  ⟨0x00FB5411A5B9A95B#64, 0x3C9293F5AE49AAA5#64, 0x3F83B0B8C1516F62#64⟩,
  ⟨0x00FB18000547133C#64, 0x3C92F0E38A4411F0#64, 0x3F81FB69EDB37671#64⟩,
  ⟨0x00FAD334827F1E26#64, 0x3C9354EE27CCF75E#64, 0x3F804EF2295FD7F9#64⟩,
  ⟨0x00FA839276708B94#64, 0x3C93C14EC7C8B861#64, 0x3F7D5751FA745DC5#64⟩,
  ⟨0x00FA263B32E37EDD#64, 0x3C94379766E41362#64, 0x3F7A23E9D4974836#64⟩,
  ⟨0x00F9B72D1C52CD17#64, 0x3C94B9D7CD4751D1#64, 0x3F77049F37EC3620#64⟩,
  ⟨0x00F930A1A281A050#64, 0x3C954AD83CCF73F6#64, 0x3F73FA97CEE322FD#64⟩,
  ⟨0x00F889F023D820A3#64, 0x3C95EE7AE17313D2#64, 0x3F71073D69574043#64⟩,
  ⟨0x00F7B577D2BE5F3A#64, 0x3C96AA676D4BBF72#64, 0x3F6C58B381CD4B11#64⟩,
  ⟨0x00F69C650C40A8F4#64, 0x3C978750D6EAC62F#64, 0x3F66D888F3A1FEFF#64⟩,
  ⟨0x00F51530F0916D8E#64, 0x3C98939FE6F2ED19#64, 0x3F61946BA8E1A324#64⟩,
  ⟨0x00F2CB0E3C5933E7#64, 0x3C99E9DC0D487B85#64, 0x3F592BB5540C3E25#64⟩,
  ⟨0x00EEEFB15D605D8E#64, 0x3C9BC39E51DA71FC#64, 0x3F4FB20AF78DFCB9#64⟩,
  ⟨0x00E6DA6ECF274603#64, 0x3C9EC9D9297EBB83#64, 0x3F3DC31C329F0B4B#64⟩]

/-- The exponential table set in blocks of 16 layers. -/
def exponentialBlocks : List (List Layer) :=
  [exponentialLayers0, exponentialLayers1, exponentialLayers2, exponentialLayers3, exponentialLayers4, exponentialLayers5, exponentialLayers6, exponentialLayers7,
   exponentialLayers8, exponentialLayers9, exponentialLayers10, exponentialLayers11, exponentialLayers12, exponentialLayers13, exponentialLayers14, exponentialLayers15]

/-- Layer i of the exponential table set, `i` in 0..255 (R126). -/
def exponentialLayer (i : Nat) : Layer := (exponentialBlocks.getD (i / 16) []).getD (i % 16) ⟨0#64, 0#64, 0#64⟩

/-- `RE`, the tail constant. -/
def exponentialTail : Word := 0x401EC9D9297EBB83#64

end Sys2Proof.Machine
end

