-- ==== Sys2Proof/Machine/Rom.lean ====
section
/-! DEFINITION. The table space `ZROM` and the command that reads it (spec/20_memory.md R42, R43). Every internal table
read of the ziggurat sampler is a read of this space (spec/44_ziggurat_sampler.md R126). -/

namespace Sys2Proof.Machine

/-- `ZROM` index `a` is mapped (R42). -/
def zromMapped (a : Nat) : Bool :=
  decide (a ≤ 0x7FF) && !(decide (0x301 ≤ a) && decide (a ≤ 0x3FF)) && !(decide (0x701 ≤ a) && decide (a ≤ 0x7FF))

/-- The entry at a mapped index `a`: `a[10:8]` selects the table and `a[7:0]` the entry (R42). -/
def zromEntry (a : Nat) : Word :=
  match a / 256 with
  | 0 => (normalLayer (a % 256)).k
  | 1 => (normalLayer (a % 256)).w
  | 2 => (normalLayer (a % 256)).f
  | 3 => normalTail
  | 4 => (exponentialLayer (a % 256)).k
  | 5 => (exponentialLayer (a % 256)).w
  | 6 => (exponentialLayer (a % 256)).f
  | _ => exponentialTail

/-- `KN[i]`, `WN[i]`, `FN[i]`, `RN` (R42, R126). -/
def tableKN (i : Nat) : Nat := (zromEntry (0x000 + i)).toNat
/-- `WN[i]`. -/
def tableWN (i : Nat) : Word := zromEntry (0x100 + i)
/-- `FN[i]`. -/
def tableFN (i : Nat) : Word := zromEntry (0x200 + i)
/-- `RN`. -/
def constRN : Word := zromEntry 0x300
/-- `KE[i]`, `WE[i]`, `FE[i]`, `RE` (R42, R126). -/
def tableKE (i : Nat) : Nat := (zromEntry (0x400 + i)).toNat
/-- `WE[i]`. -/
def tableWE (i : Nat) : Word := zromEntry (0x500 + i)
/-- `FE[i]`. -/
def tableFE (i : Nat) : Word := zromEntry (0x600 + i)
/-- `RE`. -/
def constRE : Word := zromEntry 0x700

/-- `ZROM` (R43): one entry of the table ROM, or `AddressError` for an unmapped index. It needs no seed. -/
def execZrom (a : Word) (s : State) : Host.Outcome State Fault Refusal :=
  if zromMapped (unsigned64 a) then complete (zromEntry (unsigned64 a)) s else raise .addressError s

end Sys2Proof.Machine
end

