-- ==== Sys2Proof/Machine/Ziggurat.lean ====
section
/-! DEFINITION. The ziggurat sampler: `NORM` and `EXP` (spec/44_ziggurat_sampler.md R125 to R141). Each is one loop whose
iterations are the passes of the source's state machine; a pass accepts, restarts from step 1, or (`NORM` only) goes on to
another pair of the tail. -/

namespace Sys2Proof.Machine

/-! ## `NORM` -/

/-- Where the sampling of one normal deviate stands: at step 1, or in the tail with the sign of its first word (R133). -/
inductive NormPhase (σ : Type) where
  /-- step 1: draw a word and split it -/
  | layer (s : σ)
  /-- step 4: draw a pair of uniforms; `neg` is the sign bit of the word drawn at step 1 -/
  | tail (neg : Bool) (s : σ)
deriving DecidableEq, Repr

/-- A magnitude with the sign of the word drawn at step 1 (R130, R131). -/
def withSign (neg : Bool) (x : Word) : Word := if neg then fneg x else x

/-- Step 4 for the normal distribution, one pair: U1 first, then U2 (R133). -/
def normTailPass {σ : Type} (fns : Transcendentals) (next : Source σ) (neg : Bool) (s : σ) : Iter Word (NormPhase σ) :=
  let u1 := uniform01 next s
  let u2 := uniform01 next u1.2
  let xt := fdiv (fneg (fns.ln64 u1.1)) constRN
  let y := fneg (fns.ln64 u2.1)
  if fle (fmul xt xt) (fadd y y) then .done (withSign neg (fadd constRN xt)) (.layer u2.2)
  else .again (.tail neg u2.2)

/-- Step 5 for the normal distribution, the wedge test of candidate `x` in layer `i >= 1` (R134). -/
def normWedgePass {σ : Type} (fns : Transcendentals) (next : Source σ) (i : Nat) (neg : Bool) (x : Word) (s : σ) :
    Iter Word (NormPhase σ) :=
  let u := uniform01 next s
  let lhs := fadd (tableFN i) (fmul u.1 (fsub (tableFN (i - 1)) (tableFN i)))
  let rhs := fns.exp64 (fmul f64NegHalf (fmul x x))
  if flt lhs rhs then .done (withSign neg x) (.layer u.2) else .again (.layer u.2)

/-- Steps 1 to 3 for the normal distribution: i = `u[7:0]`, s = `u[63]`, j = `u[62:8]` (R130 to R132). -/
def normLayerPass {σ : Type} (fns : Transcendentals) (next : Source σ) (s : σ) : Iter Word (NormPhase σ) :=
  let u := next s
  let i := slice u.1 7 0
  let neg := u.1.getLsbD 63
  let j := slice u.1 62 8
  let x := fmul (cvtU64F64 j) (tableWN i)
  if j < tableKN i then .done (withSign neg x) (.layer u.2)
  else if i = 0 then .again (.tail neg u.2)
  else normWedgePass fns next i neg x u.2

/-- One pass of the sampling of a normal deviate (R130). -/
def normPass {σ : Type} (fns : Transcendentals) (next : Source σ) : NormPhase σ → Iter Word (NormPhase σ)
  | .layer s => normLayerPass fns next s
  | .tail neg s => normTailPass fns next neg s

/-- The source of words a phase stands at. -/
def NormPhase.source {σ : Type} : NormPhase σ → σ
  | .layer s => s
  | .tail _ s => s

/-- A normal deviate and the source after it; `none` if the sampling never ends (R238). -/
def normSample {σ : Type} (fns : Transcendentals) (next : Source σ) (s : σ) : Option (Word × σ) :=
  match runLoop (normPass fns next) Config.loopBound (.layer s) with
  | some (r, p) => some (r, p.source)
  | none => none

/-! ## `EXP` -/

/-- Step 4 for the exponential distribution: `RE - LN64(U)`, no loop (R138). -/
def expTailPass {σ : Type} (fns : Transcendentals) (next : Source σ) (s : σ) : Iter Word σ :=
  let u := uniform01 next s
  .done (fsub constRE (fns.ln64 u.1)) u.2

/-- Step 5 for the exponential distribution, the wedge test of candidate `x` in layer `i >= 1` (R139). -/
def expWedgePass {σ : Type} (fns : Transcendentals) (next : Source σ) (i : Nat) (x : Word) (s : σ) : Iter Word σ :=
  let u := uniform01 next s
  let lhs := fadd (tableFE i) (fmul u.1 (fsub (tableFE (i - 1)) (tableFE i)))
  let rhs := fns.exp64 (fneg x)
  if flt lhs rhs then .done x u.2 else .again u.2

/-- One pass of the sampling of an exponential deviate: i = `u[7:0]`, j = `u[63:8]` (R135 to R137). -/
def expPass {σ : Type} (fns : Transcendentals) (next : Source σ) (s : σ) : Iter Word σ :=
  let u := next s
  let i := slice u.1 7 0
  let j := slice u.1 63 8
  let x := fmul (cvtU64F64 j) (tableWE i)
  if j < tableKE i then .done x u.2
  else if i = 0 then expTailPass fns next u.2
  else expWedgePass fns next i x u.2

/-- An exponential deviate and the source after it; `none` if the sampling never ends (R238). -/
def expSample {σ : Type} (fns : Transcendentals) (next : Source σ) (s : σ) : Option (Word × σ) :=
  runLoop (expPass fns next) Config.loopBound s

/-! ## The commands -/

/-- A deviate becomes the result of the command. -/
def answerSample (d : Option (Word × Engine)) (s : State) : Host.Outcome State Fault Refusal :=
  match d with
  | some (r, e) => complete r (s.setS e)
  | none => finish (.error .never)

/-- `NORM` (R130). -/
def normWith (par : Parameters) (_ : Word) (s : State) : Host.Outcome State Fault Refusal :=
  withSeed s (answerSample (normSample par.functions par.step s.S) s)

/-- `NORM` in the default instance. -/
def execNorm (a : Word) (s : State) : Host.Outcome State Fault Refusal :=
  normWith defaultParameters a s

/-- `EXP` (R135). -/
def expWith (par : Parameters) (_ : Word) (s : State) : Host.Outcome State Fault Refusal :=
  withSeed s (answerSample (expSample par.functions par.step s.S) s)

/-- `EXP` in the default instance. -/
def execExp (a : Word) (s : State) : Host.Outcome State Fault Refusal :=
  expWith defaultParameters a s

end Sys2Proof.Machine
end

