-- ==== Sys2Proof/Machine/Dispatch.lean ====
section
/-! DEFINITION. From an instruction to its meaning: one arm per command of spec/opcode_table.json. -/

namespace Sys2Proof.Machine

def exec (i : Instr) (s : State) : Host.Outcome State Fault Refusal :=
  match i with
  | .seed a => Sys2Proof.Machine.execSeed a s
  | .u64 a => Sys2Proof.Machine.execU64 a s
  | .u32 a => Sys2Proof.Machine.execU32 a s
  | .i63 a => Sys2Proof.Machine.execI63 a s
  | .i31 a => Sys2Proof.Machine.execI31 a s
  | .int a => Sys2Proof.Machine.execInt a s
  | .u64n a => Sys2Proof.Machine.execU64N a s
  | .i63n a => Sys2Proof.Machine.execI63N a s
  | .u32n a => Sys2Proof.Machine.execU32N a s
  | .i31n a => Sys2Proof.Machine.execI31N a s
  | .intn a => Sys2Proof.Machine.execIntN a s
  | .f64 a => Sys2Proof.Machine.execF64 a s
  | .f32 a => Sys2Proof.Machine.execF32 a s
  | .norm a => Sys2Proof.Machine.execNorm a s
  | .exp a => Sys2Proof.Machine.execExp a s
  | .zrom a => Sys2Proof.Machine.execZrom a s
  | .perm a => Sys2Proof.Machine.execPerm a s
  | .shuf a => Sys2Proof.Machine.execShuf a s
  | .read a => Sys2Proof.Machine.execRead a s
  | .marshal a => Sys2Proof.Machine.execMarshal a s
  | .unmarshal a => Sys2Proof.Machine.execUnmarshal a s

end Sys2Proof.Machine
end

