-- ==== Sys2Proof/Machine/HostPort.lean ====
section
/-! DEFINITION. What the host does to the block between steps (spec/20_memory.md R47, spec/70_reset_and_hazards.md R230,
R236, R241). These are transitions of the host, not of the block: no step makes them. -/

namespace Sys2Proof.Machine

/-- The host presents a command word; it is performed after those presented before it (R236). -/
def State.present (s : State) (w : CommandWord) : State := { s with CMD := s.CMD ++ [w] }

/-- The host puts bytes on `DIN`, behind those already there (R47, R241). -/
def State.supply (s : State) (bytes : List Byte) : State := { s with DIN := s.DIN ++ bytes }

/-- The host sends one transaction: the command word, and its payload on `DIN`. -/
def State.transact (s : State) (t : Transaction) : State := (s.present (encode t.instr)).supply t.payload

/-- The host takes the first thing sent (R47). -/
def State.takeOut (s : State) : State := { s with OUT := s.OUT.tail }

/-- A hardware reset (R230): `SEEDED <- 0`, every channel emptied, whatever command was in flight abandoned. `S`, `RDV`,
`RDC` and `P` are unspecified afterwards, so a reset may leave ANY values in them: this is a relation, and `State.reset` is
one of the states it allows. -/
def HardwareReset (t : State) : Prop :=
  ∃ (e : Engine) (v : Word) (c : BitVec 3) (p : List (Nat × Word)),
    t = { S := e, RDV := v, RDC := c, SEEDED := false, P := p, CMD := [], DIN := [], OUT := [] }

/-! ## The host's view of each channel -/

/-- The bytes on `BOUT`, in order. -/
def boutOf (out : List OutItem) : List Byte :=
  out.filterMap fun x => match x with
    | .bout b => some b
    | .vout _ => none
    | .swp _ _ => none
    | .rsp _ => none

/-- The values on `VOUT`, in order. -/
def voutOf (out : List OutItem) : List Word :=
  out.filterMap fun x => match x with
    | .vout v => some v
    | .bout _ => none
    | .swp _ _ => none
    | .rsp _ => none

/-- The pairs on `SWP`, in order. -/
def swpOf (out : List OutItem) : List (Word × Word) :=
  out.filterMap fun x => match x with
    | .swp i j => some (i, j)
    | .bout _ => none
    | .vout _ => none
    | .rsp _ => none

/-- The responses, in order. -/
def responsesOf (out : List OutItem) : List Response :=
  out.filterMap fun x => match x with
    | .rsp r => some r
    | .bout _ => none
    | .vout _ => none
    | .swp _ _ => none

end Sys2Proof.Machine
end

