-- ==== Sys2Proof/Machine/Instance.lean ====
section
/-! DEFINITION. The block with its OPEN parameters as an argument (spec/00_scope.md R6, R15): the meaning of a command, the
step and the machine of any instance. Machine/Dispatch.lean, Machine/Step.lean and Machine/Core.lean have the default
instance, the one that the vectors and the host use. -/

namespace Sys2Proof.Machine

/-- A command in the instance with the parameters `par`. `SEED` and `ZROM` rest on no parameter. -/
def execWith (par : Parameters) (i : Instr) (s : State) : Host.Outcome State Fault Refusal :=
  match i with
  | .seed a => execSeed a s
  | .u64 a => u64With par a s
  | .u32 a => u32With par a s
  | .i63 a => i63With par a s
  | .i31 a => i31With par a s
  | .int a => intWith par a s
  | .u64n a => u64nWith par a s
  | .i63n a => i63nWith par a s
  | .u32n a => u32nWith par a s
  | .i31n a => i31nWith par a s
  | .intn a => intnWith par a s
  | .f64 a => f64With par a s
  | .f32 a => f32With par a s
  | .norm a => normWith par a s
  | .exp a => expWith par a s
  | .zrom a => execZrom a s
  | .perm a => permWith par a s
  | .shuf a => shufWith par a s
  | .read a => readWith par a s
  | .marshal a => marshalWith par a s
  | .unmarshal a => unmarshalWith par a s

/-- One step of a block that performs commands by `run` (R15, R67): with no command presented it does nothing (R222); an
illegal opcode is answered `IllegalCommand` (R65, R205); a legal command is performed. -/
def performNext (run : Instr → State → Host.Outcome State Fault Refusal) (s : State) : Host.Outcome State Fault Refusal :=
  match s.CMD with
  | [] => .next s
  | w :: _ =>
    match decode w with
    | .ok i => run i s
    | .error _ => raise .illegalCommand s

/-- One step of the instance with the parameters `par`. -/
def stepWith (par : Parameters) (s : State) : Host.Outcome State Fault Refusal := performNext (execWith par) s

/-- The machine of the instance with the parameters `par`. -/
def coreWith (par : Parameters) : Host.Core :=
  { State := State, Fault := Fault, Refusal := Refusal, step := stepWith par, reset := State.reset }

end Sys2Proof.Machine
end

