-- ==== Sys2Proof/Machine/Step.lean ====
section
/-! DEFINITION. One step of the block (spec/00_scope.md R15, spec/30_encoding.md R67): it takes the first command word
presented and performs the whole command. The block fetches nothing from memory and has no program counter (R26, R50). -/

namespace Sys2Proof.Machine

/-- One step of the default instance: the first command presented is performed, and leaves the channel with its response. -/
def step (s : State) : Host.Outcome State Fault Refusal := performNext exec s

/-- The payload bytes that go with a table word: zeros, as many as the command takes, up to the 25 of the longest
instruction that can succeed; none for any command but `UNMARSHAL` (R66). Log entry 7. -/
def zeroPayload (w : CommandWord) : List Byte :=
  if w.op = 0x41#8 then List.replicate (min w.operandBits.toNat Config.snapLen) 0#8 else []

/-- `s` with the instruction of the `nbits` bits `w` placed where `step` takes its next command: first among the commands
presented, its payload first on `DIN`. -/
def State.withFetchWord (s : State) (nbits w : Nat) : State :=
  { s with
    CMD := BitVec.ofNat 72 (w % 2 ^ nbits) :: s.CMD
    DIN := zeroPayload (BitVec.ofNat 72 (w % 2 ^ nbits)) ++ s.DIN }

end Sys2Proof.Machine
end

