-- ==== Sys2Proof/Safety.lean ====
section
/-! DEFINITION. What counts as a safe run of the block, in the terms the statements use: the invariant of the state, when
two instances are in the same state, a sequence of moves, what it is to be the rounding of a real number, and what the
sampler may assume of its function parameters. -/

namespace Sys2Proof.Machine

/-! ## The invariant -/

/-- The leftover buffer is in its canonical form (R22): every bit of `RDV` above the held bytes is zero. It is asked only
of a seeded instance, since `RDV` and `RDC` are unspecified before (R32). -/
def LeftoverCanonical (s : State) : Prop := s.SEEDED = true → s.RDV.toNat < 2 ^ (8 * s.RDC.toNat)

/-- The scratch RAM lists its written entries by strictly rising index, all below `PERM_MAX` (R40, R46). -/
def ScratchCanonical (s : State) : Prop := scratchWf Config.permMax s.P = true

/-- The invariant of the state. -/
def Inv (s : State) : Prop := LeftoverCanonical s ∧ ScratchCanonical s

/-! ## Outcomes -/

/-- The step stops with a fault. -/
def IsFault (o : Host.Outcome State Fault Refusal) : Prop := ∃ f, o = .fault f

/-- The state after a command that drew its value from the engine and did nothing else: `S` is `e`, the response is
`ST = OK`, `R = r`, and everything else is as it was. -/
def State.afterDraws (s : State) (e : Engine) (r : Word) : State :=
  { s with S := e, CMD := s.CMD.tail, OUT := s.OUT ++ [.rsp ⟨.ok, r⟩] }

/-- The state after a command that ended in an error: the response is `ST = e`, `R = 0`, and everything else is as it was
(R211). -/
def State.afterError (s : State) (e : Status) : State :=
  { s with CMD := s.CMD.tail, OUT := s.OUT ++ [.rsp ⟨e, 0#64⟩] }

/-- The command must find `SEEDED = 1`: the column "needs seed" of the opcode map (R62, R206). -/
def needsSeed : Instr → Bool
  | .seed _ => false
  | .u64 _ => true
  | .u32 _ => true
  | .i63 _ => true
  | .i31 _ => true
  | .int _ => true
  | .u64n _ => true
  | .i63n _ => true
  | .u32n _ => true
  | .i31n _ => true
  | .intn _ => true
  | .f64 _ => true
  | .f32 _ => true
  | .norm _ => true
  | .exp _ => true
  | .zrom _ => false
  | .perm _ => true
  | .shuf _ => true
  | .read _ => true
  | .marshal _ => true
  | .unmarshal _ => false

/-- The statuses a command can answer, its row of the table of R209. -/
def possibleStatuses : Instr → List Status
  | .seed _ => [.ok]
  | .u64 _ => [.ok, .notSeeded]
  | .u32 _ => [.ok, .notSeeded]
  | .i63 _ => [.ok, .notSeeded]
  | .i31 _ => [.ok, .notSeeded]
  | .int _ => [.ok, .notSeeded]
  | .f64 _ => [.ok, .notSeeded]
  | .f32 _ => [.ok, .notSeeded]
  | .norm _ => [.ok, .notSeeded]
  | .exp _ => [.ok, .notSeeded]
  | .marshal _ => [.ok, .notSeeded]
  | .u64n _ => [.ok, .domainError, .notSeeded]
  | .i63n _ => [.ok, .domainError, .notSeeded]
  | .u32n _ => [.ok, .domainError, .notSeeded]
  | .i31n _ => [.ok, .domainError, .notSeeded]
  | .intn _ => [.ok, .domainError, .notSeeded]
  | .shuf _ => [.ok, .invalidArgument, .notSeeded]
  | .read _ => [.ok, .invalidArgument, .notSeeded]
  | .perm _ => [.ok, .invalidArgument, .notSeeded, .capacityError]
  | .unmarshal _ => [.ok, .formatError]
  | .zrom _ => [.ok, .addressError]

/-- The one output stream a command may emit on (the column "stream" of R62, R47). -/
def onItsStream : Instr → OutItem → Bool
  | .perm _, .vout _ => true
  | .shuf _, .swp _ _ => true
  | .read _, .bout _ => true
  | .marshal _, .bout _ => true
  | _, _ => false

/-! ## Runs -/

/-- One move of a run: the host's, or one step of the block (R47, R236, R241). -/
inductive Move where
  /-- the host presents a command word -/
  | present (w : CommandWord)
  /-- the host puts bytes on `DIN` -/
  | supply (bytes : List Byte)
  /-- the host takes the first thing sent -/
  | take
  /-- the block makes one step -/
  | step
deriving DecidableEq, Repr

/-- A sequence of moves of a block whose step is `next`, stopping where a step has no next state. A command that waits for
its payload stays first in `CMD`: further steps come back to it, and no other command is looked at (R236, R241). -/
def perform (next : State → Host.Outcome State Fault Refusal) : List Move → State → Host.Outcome State Fault Refusal
  | [], s => .next s
  | .present w :: ms, s => perform next ms (s.present w)
  | .supply bytes :: ms, s => perform next ms (s.supply bytes)
  | .take :: ms, s => perform next ms s.takeOut
  | .step :: ms, s =>
    match next s with
    | .next t => perform next ms t
    | .fault f => .fault f
    | .refused r => .refused r

/-- The engine state after k draws (R82). -/
def engineAfter (e : Engine) : Nat → Engine
  | 0 => e
  | k + 1 => advance (engineAfter e k)

/-- Raw word number k, from 0, of the sequence that starts at engine state `e` (R82). -/
def rawWord (e : Engine) (k : Nat) : Word := output (engineAfter e (k + 1))

/-- `v k` is the first of `v 0, v 1, ...` below `m`: what a redraw loop with threshold `m` accepts (R101). -/
def FirstBelow (m : Nat) (v : Nat → Nat) (k : Nat) : Prop := (∀ i, i < k → m ≤ v i) ∧ v k < m

/-- The binary64 value of `u[63:11] * 2^-53`, `Uniform01()` of the raw word u (R120). -/
def uniformOf (u : Word) : Word := word (f64OfBits53 (u.toNat / 2 ^ 11))

/-- Byte k, from 0, of the byte stream that starts at engine state `e` with `c` leftover bytes in `v`: the held bytes
first, then the bytes of the raw words in order, each least significant byte first (R172). -/
def streamByte (e : Engine) (v : Word) (c k : Nat) : Byte :=
  if k < c then BitVec.ofNat 8 (v.toNat / 2 ^ (8 * k))
  else BitVec.ofNat 8 ((rawWord e ((k - c) / 8)).toNat / 2 ^ (8 * ((k - c) % 8)))

/-- Exchange elements i and j of a host's sequence (R47, R239). -/
def exchange (l : List Nat) (x : Nat × Nat) : List Nat := (l.set x.1 (l.getD x.2 0)).set x.2 (l.getD x.1 0)

/-- Apply swap requests in the order given (R239). -/
def applySwaps (l : List Nat) (swaps : List (Nat × Nat)) : List Nat := swaps.foldl exchange l

/-- Two instances are in the same state (R33), with the same commands and bytes waiting and the same things sent: `SEEDED`
agrees, and `S`, `RDC`, `RDV` agree once it is 1. The scratch RAM does not count. -/
def SameState (s t : State) : Prop :=
  s.SEEDED = t.SEEDED ∧ (s.SEEDED = true → s.S = t.S ∧ s.RDC = t.RDC ∧ s.RDV = t.RDV) ∧
    s.CMD = t.CMD ∧ s.DIN = t.DIN ∧ s.OUT = t.OUT

/-- Two outcomes a host cannot tell apart: both stop for the same reason, or both go on in the same state. -/
def SameOutcome : Host.Outcome State Fault Refusal → Host.Outcome State Fault Refusal → Prop
  | .next s, .next t => SameState s t
  | .fault f, .fault g => f = g
  | .refused r, .refused q => r = q
  | .next _, .fault _ => False
  | .next _, .refused _ => False
  | .fault _, .next _ => False
  | .fault _, .refused _ => False
  | .refused _, .next _ => False
  | .refused _, .fault _ => False

/-! ## Exact values and rounding -/

/-- The binary64 pattern `x` is finite and its value is the real number `v` (R13). -/
def IsValue (x : Word) (v : ℝ) : Prop := f64IsFinite x = true ∧ v * 2 ^ 1074 = (f64Value x : ℝ)

/-- `z` is the binary64 nearest to the real number `v`, ties to even (R13). It is an infinity exactly from halfway between
the largest finite value and `2^1024` on; otherwise no finite value is nearer, and where a different one is as near, the
pattern of `z` is even. Its sign is that of `v` unless `v` is 0. -/
def RoundsTo (z : Word) (v : ℝ) : Prop :=
  f64IsNaN z = false ∧ (f64IsInf z = true ↔ (2 ^ 54 - 1) * 2 ^ 970 ≤ |v|) ∧
    (v < 0 → f64Sign z = true) ∧ (0 < v → f64Sign z = false) ∧
    ∀ a, IsValue z a → ∀ (w : Word) (b : ℝ), IsValue w b →
      |a - v| ≤ |b - v| ∧ (|a - v| = |b - v| → a ≠ b → z.getLsbD 0 = false)

/-- Some working precision of the exponential decides: both ends of its enclosure round alike. Log entry 4. -/
def ExpDecided (x : Word) : Prop :=
  ∃ p ∈ precisions, (expEnds (f64Sign x) (f64Units x) p).1 = (expEnds (f64Sign x) (f64Units x) p).2

/-- Some working precision of the logarithm decides: both ends of its enclosure round alike. Log entry 4. -/
def LnDecided (x : Word) : Prop := ∃ p ∈ precisions, (lnEnds (f64Units x) p).1 = (lnEnds (f64Units x) p).2

/-! ## The function parameters of the sampler -/

/-- What R14 lets the rules assume of `EXP64` and `LN64`. -/
structure Lawful (fns : Transcendentals) : Prop where
  /-- `LN64(+0) = -inf` -/
  ln_zero : fns.ln64 0#64 = f64NegInf
  /-- for a finite u with 0 < u < 1, `LN64(u)` is finite and negative or zero -/
  ln_nonpos : ∀ u, f64IsFinite u = true → flt 0#64 u = true → flt u f64One = true →
    f64IsFinite (fns.ln64 u) = true ∧ fle (fns.ln64 u) 0#64 = true
  /-- for a finite x <= 0, `EXP64(x)` is finite with 0 <= EXP64(x) <= 1 -/
  exp_unit : ∀ x, f64IsFinite x = true → fle x 0#64 = true →
    f64IsFinite (fns.exp64 x) = true ∧ fle 0#64 (fns.exp64 x) = true ∧ fle (fns.exp64 x) f64One = true
  /-- `EXP64(+0) = 1.0` -/
  exp_zero : fns.exp64 0#64 = f64One
  /-- `EXP64(-0) = 1.0` -/
  exp_negZero : fns.exp64 0x8000000000000000#64 = f64One

end Sys2Proof.Machine
end

