-- ==== Sys2Proof/Certificates/Slice0/Obligations.lean ====
section
/-! DEFINITION. The statements about the model, one definition each. They follow the numbered rules of spec/ file by
file. A state is any state, reached or not, unless a hypothesis says otherwise. -/

open Sys2Proof Sys2Proof.Machine

/-! ## Encoding (spec/30_encoding.md) -/

/-- Decoding the command word of any instruction, with any operand, gives the instruction (R60, R62, R63). -/
def Obligations.DecodeAfterEncode : Prop := ∀ i : Instr, decode (encode i) = .ok i

/-- Every legal command word is the command word of the instruction it decodes to: no bit of it is lost (R60, R63). -/
def Obligations.EncodeAfterDecode : Prop := ∀ (w : CommandWord) (i : Instr), decode w = .ok i → encode i = w

/-- Command words written out from R60 and R62, and what they stand for. -/
def Obligations.SampleWordsDecode : Prop :=
  decode 0x010000000000000001#72 = .ok (.seed 1#64) ∧
  decode 0x020000000000000000#72 = .ok (.u64 0#64) ∧
  decode 0x12ABCDEF010000000A#72 = .ok (.u32n 0xABCDEF010000000A#64) ∧
  decode 0x2A0000000000000300#72 = .ok (.zrom 0x300#64) ∧
  decode 0x30FFFFFFFFFFFFFFFF#72 = .ok (.perm 0xFFFFFFFFFFFFFFFF#64) ∧
  decode 0x410000000000000019#72 = .ok (.unmarshal 25#64) ∧
  decode 0x000000000000000000#72 = .error (.illegalCommand 0x00#8) ∧
  decode 0xFFFFFFFFFFFFFFFFFF#72 = .error (.illegalCommand 0xFF#8)

/-! ## The step (spec/30_encoding.md R65, R67; spec/60_exceptions.md R205; spec/70_reset_and_hazards.md R236) -/

/-- When the first command word presented decodes to an instruction, the step is that instruction's meaning, in every
instance of the block; and the step and the meanings of the default instance are those of the default parameters (R6). -/
def Obligations.StepRunsDecodedCommand : Prop :=
  ∀ (s : State) (w : CommandWord) (rest : List CommandWord) (i : Instr),
    s.CMD = w :: rest → decode w = .ok i →
    step s = exec i s ∧ (∀ par : Parameters, stepWith par s = execWith par i s) ∧
      exec i s = execWith defaultParameters i s ∧ step s = stepWith defaultParameters s

/-- R205: a command word whose opcode is none of the 21 is answered `ST = 4`, `R = 0`, in every state and whatever `A`
holds, and nothing else changes. -/
def Obligations.IllegalOpcodeIsAnswered : Prop :=
  ∀ (s : State) (op : BitVec 8) (a : Word) (rest : List CommandWord),
    s.CMD = (op ++ a) :: rest →
    op.toNat ∉ [0x01, 0x02, 0x03, 0x04, 0x05, 0x06, 0x10, 0x11, 0x12, 0x13, 0x14, 0x20, 0x21, 0x28, 0x29, 0x2A, 0x30,
      0x31, 0x38, 0x40, 0x41] →
    step s = .next { s with CMD := rest, OUT := s.OUT ++ [.rsp ⟨.illegalCommand, 0#64⟩] } ∧
      Status.illegalCommand.code = 4#4

/-- With no command presented a step changes nothing (R222). -/
def Obligations.IdleStepChangesNothing : Prop := ∀ s : State, s.CMD = [] → step s = .next s

/-! ## Reset and the invariant (spec/10_state.md R22, R32; spec/70_reset_and_hazards.md R230 to R232) -/

/-- Right after a hardware reset the block is not seeded and every channel is empty; `State.reset` is such a state, and
meets the invariant. The values of its other fields are the model's choice (log entry 1) and are not spoken of. -/
def Obligations.ResetIsUnseededAndEmpty : Prop :=
  (∀ t : State, HardwareReset t → t.SEEDED = false ∧ t.CMD = [] ∧ t.DIN = [] ∧ t.OUT = []) ∧
    HardwareReset State.reset ∧ Inv State.reset

/-- Every step, of the default instance and of every other, keeps the leftover buffer in its canonical form: once seeded,
every bit of `RDV` above the `RDC` held bytes is zero (R22). -/
def Obligations.LeftoverFormIsKept : Prop :=
  (∀ s t : State, LeftoverCanonical s → step s = .next t → LeftoverCanonical t) ∧
    ∀ (par : Parameters) (s t : State), LeftoverCanonical s → stepWith par s = .next t → LeftoverCanonical t

/-- Every step keeps the scratch RAM in its canonical form: entries by strictly rising index, all below `PERM_MAX`, in the
default instance and in an instance of any other `PERM_MAX` (R40, R46, R167). -/
def Obligations.ScratchFormIsKept : Prop :=
  (∀ s t : State, ScratchCanonical s → step s = .next t → ScratchCanonical t) ∧
    ∀ (par : Parameters) (s t : State),
      scratchWf par.permMax s.P = true → stepWith par s = .next t → scratchWf par.permMax t.P = true

/-- R23, R27: no command clears `SEEDED`, and only `SEED` and `UNMARSHAL` set it. -/
def Obligations.OnlySeedAndUnmarshalWriteSeeded : Prop :=
  ∀ (i : Instr) (s t : State), exec i s = .next t →
    (s.SEEDED = true → t.SEEDED = true) ∧
    (s.SEEDED = false → t.SEEDED = true → ∃ a, i = .seed a ∨ i = .unmarshal a)

/-! ## Core engine (spec/40_core_engine.md) -/

/-- R81: `SEED` writes `S = A * 2^64 + A`, empties the leftover buffer, sets `SEEDED`, answers 0, in every state. -/
def Obligations.SeedWritesTheState : Prop :=
  ∀ (a : Word) (s : State),
    decode (0x01#8 ++ a) = .ok (.seed a) ∧
    exec (.seed a) s = .next { s with
      S := BitVec.ofNat 128 (a.toNat * 2 ^ 64 + a.toNat), RDV := 0#64, RDC := 0#3, SEEDED := true,
      CMD := s.CMD.tail, OUT := s.OUT ++ [.rsp ⟨.ok, 0#64⟩] }

/-- R82, R83 and R85, in integers: `U64` advances `S` by `(S * PCG_MUL + PCG_INC) mod 2^128` and returns the exclusive or
of the halves of the new `S`, rotated right by its top six bits; in an instance with another `STEP` (R6) it returns the
word of that one. -/
def Obligations.RawWordIsTheRotatedXor : Prop :=
  ∀ (a : Word) (s : State),
    decode (0x02#8 ++ a) = .ok (.u64 a) ∧
    (s.SEEDED = true → ∃ (e : Engine) (r : Word),
      exec (.u64 a) s = .next (s.afterDraws e r) ∧
      e.toNat = (s.S.toNat * 0x2360ED051FC65DA44385DF649FCCF645 + 0x5851F42D4C957F2D14057B7EF767814F) % 2 ^ 128 ∧
      r.toNat =
        ((e.toNat / 2 ^ 64) ^^^ (e.toNat % 2 ^ 64)) / 2 ^ (e.toNat / 2 ^ 122) +
          ((e.toNat / 2 ^ 64) ^^^ (e.toNat % 2 ^ 64)) % 2 ^ (e.toNat / 2 ^ 122) * 2 ^ (64 - e.toNat / 2 ^ 122)) ∧
    (s.SEEDED = false → exec (.u64 a) s = .next (s.afterError .notSeeded)) ∧
    ∀ par : Parameters, s.SEEDED = true →
      execWith par (.u64 a) s = .next (s.afterDraws (par.step s.S).2 (par.step s.S).1)

/-- R84: the advance is a single cycle through all `2^128` states. -/
def Obligations.EngineIsASingleCycle : Prop := ∀ e f : Engine, ∃ k, k < 2 ^ 128 ∧ engineAfter e k = f

/-- R86: when the block performs `SEED`, whatever its state was before, every run from there on has the same outcome: the
commands presented already and later, the bytes put on `DIN`, the steps between them. -/
def Obligations.ReseedForgetsThePast : Prop :=
  ∀ (a : Word) (rest : List CommandWord) (s t : State),
    s.CMD = encode (.seed a) :: rest → t.CMD = encode (.seed a) :: rest → s.DIN = t.DIN → s.OUT = t.OUT →
    ∀ moves : List Move, SameOutcome (perform step (.step :: moves) s) (perform step (.step :: moves) t) ∧
      ∀ par : Parameters,
        SameOutcome (perform (stepWith par) (.step :: moves) s) (perform (stepWith par) (.step :: moves) t)

/-! ## Integer derivation (spec/41_integer_derivation.md) -/

/-- R91, R92, R93, R94: `U32`, `I63`, `I31` and `INT` return a slice of one raw word, zero-extended, and advance `S` by one
draw; unseeded, they answer `NotSeeded`. -/
def Obligations.DerivedIntegersAreSlices : Prop :=
  ∀ (a : Word) (s : State),
    (decode (0x03#8 ++ a) = .ok (.u32 a) ∧ decode (0x04#8 ++ a) = .ok (.i63 a) ∧
      decode (0x05#8 ++ a) = .ok (.i31 a) ∧ decode (0x06#8 ++ a) = .ok (.int a)) ∧
    (s.SEEDED = true →
      exec (.u32 a) s = .next (s.afterDraws (engineAfter s.S 1) (word ((rawWord s.S 0).toNat / 2 ^ 32))) ∧
      exec (.i63 a) s = .next (s.afterDraws (engineAfter s.S 1) (word ((rawWord s.S 0).toNat % 2 ^ 63))) ∧
      exec (.i31 a) s = .next (s.afterDraws (engineAfter s.S 1) (word ((rawWord s.S 0).toNat / 2 ^ 32 % 2 ^ 31))) ∧
      exec (.int a) s = .next (s.afterDraws (engineAfter s.S 1) (word ((rawWord s.S 0).toNat % 2 ^ 63)))) ∧
    (s.SEEDED = false →
      exec (.u32 a) s = .next (s.afterError .notSeeded) ∧ exec (.i63 a) s = .next (s.afterError .notSeeded) ∧
      exec (.i31 a) s = .next (s.afterError .notSeeded) ∧ exec (.int a) s = .next (s.afterError .notSeeded))

/-! ## Bounded sampler (spec/42_bounded_sampler.md) -/

/-- R101, R103, R105: `U64N` and `U32N` return the first draw below `M = 2^W - 2^W mod n`, reduced modulo n, and `S` has
advanced by the draws made; a power of two has `M = 2^W`, so its first draw is taken. -/
def Obligations.UnsignedBoundsTakeTheFirstAcceptedDraw : Prop :=
  ∀ (a : Word) (s : State) (k : Nat), s.SEEDED = true →
    (a.toNat ≠ 0 →
      FirstBelow (2 ^ 64 - 2 ^ 64 % a.toNat) (fun i => (rawWord s.S i).toNat) k →
      exec (.u64n a) s =
        .next (s.afterDraws (engineAfter s.S (k + 1)) (word ((rawWord s.S k).toNat % a.toNat)))) ∧
    (a.toNat % 2 ^ 32 ≠ 0 →
      FirstBelow (2 ^ 32 - 2 ^ 32 % (a.toNat % 2 ^ 32)) (fun i => (rawWord s.S i).toNat / 2 ^ 32) k →
      exec (.u32n a) s =
        .next (s.afterDraws (engineAfter s.S (k + 1))
          (word ((rawWord s.S k).toNat / 2 ^ 32 % (a.toNat % 2 ^ 32)))))

/-- R101, R104, R106, R107: the same for the signed bounds `I63N`, `I31N` and `INTN`, whose widths are 63, 31 and 63. -/
def Obligations.SignedBoundsTakeTheFirstAcceptedDraw : Prop :=
  ∀ (a : Word) (s : State) (k : Nat), s.SEEDED = true →
    (0 < a.toNat → a.toNat < 2 ^ 63 →
      FirstBelow (2 ^ 63 - 2 ^ 63 % a.toNat) (fun i => (rawWord s.S i).toNat % 2 ^ 63) k →
      exec (.i63n a) s =
        .next (s.afterDraws (engineAfter s.S (k + 1)) (word ((rawWord s.S k).toNat % 2 ^ 63 % a.toNat))) ∧
      exec (.intn a) s =
        .next (s.afterDraws (engineAfter s.S (k + 1)) (word ((rawWord s.S k).toNat % 2 ^ 63 % a.toNat)))) ∧
    (0 < a.toNat % 2 ^ 32 → a.toNat % 2 ^ 32 < 2 ^ 31 →
      FirstBelow (2 ^ 31 - 2 ^ 31 % (a.toNat % 2 ^ 32)) (fun i => (rawWord s.S i).toNat / 2 ^ 32 % 2 ^ 31) k →
      exec (.i31n a) s =
        .next (s.afterDraws (engineAfter s.S (k + 1))
          (word ((rawWord s.S k).toNat / 2 ^ 32 % 2 ^ 31 % (a.toNat % 2 ^ 32)))))

/-- R202: a bound that is zero or, for a signed bound, negative is answered `DomainError` by a seeded instance; nothing is
drawn and nothing else changes. -/
def Obligations.BoundsAtOrBelowZeroAreDomainErrors : Prop :=
  ∀ (a : Word) (s : State), s.SEEDED = true →
    (a.toNat = 0 → exec (.u64n a) s = .next (s.afterError .domainError)) ∧
    (a.toNat = 0 ∨ 2 ^ 63 ≤ a.toNat →
      exec (.i63n a) s = .next (s.afterError .domainError) ∧ exec (.intn a) s = .next (s.afterError .domainError)) ∧
    (a.toNat % 2 ^ 32 = 0 → exec (.u32n a) s = .next (s.afterError .domainError)) ∧
    (a.toNat % 2 ^ 32 = 0 ∨ 2 ^ 31 ≤ a.toNat % 2 ^ 32 → exec (.i31n a) s = .next (s.afterError .domainError)) ∧
    Status.domainError.code = 1#4

/-- R108, R238: every bounded command with a positive bound is answered by a seeded instance, with a value in `[0, n)`:
with the default engine the redraw loop ends from every state. That it ends is a theorem about the default engine, which
the spec does not claim. -/
def Obligations.BoundedCommandsAnswerBelowTheBound : Prop :=
  ∀ (a : Word) (s : State), s.SEEDED = true →
    (0 < a.toNat → ∃ e r, exec (.u64n a) s = .next (s.afterDraws e r) ∧ r.toNat < a.toNat) ∧
    (0 < a.toNat → a.toNat < 2 ^ 63 →
      (∃ e r, exec (.i63n a) s = .next (s.afterDraws e r) ∧ r.toNat < a.toNat) ∧
      (∃ e r, exec (.intn a) s = .next (s.afterDraws e r) ∧ r.toNat < a.toNat)) ∧
    (0 < a.toNat % 2 ^ 32 → ∃ e r, exec (.u32n a) s = .next (s.afterDraws e r) ∧ r.toNat < a.toNat % 2 ^ 32) ∧
    (0 < a.toNat % 2 ^ 32 → a.toNat % 2 ^ 32 < 2 ^ 31 →
      ∃ e r, exec (.i31n a) s = .next (s.afterDraws e r) ∧ r.toNat < a.toNat % 2 ^ 32)

/-- R102: for a bound that is no power of two, M is the largest multiple of n not above `2^W` and not above `2^W - 1`, it
lies strictly between 0 and `2^W`, fewer than half of all draws are rejected, and each of the n results has exactly
`M / n` accepted draws, so that there is no modulo bias. -/
def Obligations.ThresholdLeavesNoModuloBias : Prop :=
  ∀ n W : Nat, 1 ≤ n → n ≤ 2 ^ W - 1 → (∀ j, n ≠ 2 ^ j) →
    n ∣ threshold n W ∧ threshold n W = 2 ^ W / n * n ∧ threshold n W = (2 ^ W - 1) / n * n ∧
    0 < threshold n W ∧ threshold n W < 2 ^ W ∧ 2 * (2 ^ W % n) < 2 ^ W ∧
    (∀ r, r < n → ((Finset.range (threshold n W)).filter (fun v => v % n = r)).card = threshold n W / n) ∧
    (2 ^ W - n) % n = 2 ^ W % n

/-- R238: following a rejection loop of the block for `loopBound` iterations is following it for ever. A loop whose state
is `S` (the redraws of the bounded sampler, `EXP`), or `S` with the phase of `NORM`, and that has not ended within
`loopBound` iterations, ends after no number of them, whatever its body. -/
def Obligations.LoopBoundIsNoCap : Prop :=
  (∀ (α : Type) (body : Engine → Iter α Engine) (s : Engine),
    runLoop body Config.loopBound s = none → ∀ n, runLoop body n s = none) ∧
  (∀ (α : Type) (body : NormPhase Engine → Iter α (NormPhase Engine)) (s : NormPhase Engine),
    runLoop body Config.loopBound s = none → ∀ n, runLoop body n s = none)

/-! ## Float constructor (spec/43_float_constructor.md) -/

/-- R116, R118: `F64` returns the binary64 whose value is exactly `u[63:11] * 2^-53`, of sign 0, and `+0.0` when those bits
are zero. -/
def Obligations.UniformDoubleIsExact : Prop :=
  ∀ (a : Word) (s : State),
    decode (0x20#8 ++ a) = .ok (.f64 a) ∧
    (s.SEEDED = true → ∃ r : Word,
      exec (.f64 a) s = .next (s.afterDraws (engineAfter s.S 1) r) ∧
      f64Sign r = false ∧ f64IsFinite r = true ∧
      f64Units r * 2 ^ 53 = (rawWord s.S 0).toNat / 2 ^ 11 * 2 ^ 1074 ∧
      ((rawWord s.S 0).toNat / 2 ^ 11 = 0 → r = 0#64) ∧ r.toNat < 0x3FF0000000000000) ∧
    (s.SEEDED = false → exec (.f64 a) s = .next (s.afterError .notSeeded))

/-- R117, R118: `F32` returns, in `R[31:0]`, the binary32 whose value is exactly `u[63:40] * 2^-24`, of sign 0: `+0.0` when
those bits are zero, and otherwise a normal number, `(2^23 + fraction) * 2^(exponent - 150)`, below 1.0. -/
def Obligations.UniformSingleIsExact : Prop :=
  ∀ (a : Word) (s : State),
    decode (0x21#8 ++ a) = .ok (.f32 a) ∧
    (s.SEEDED = true → ∃ r : Word,
      exec (.f32 a) s = .next (s.afterDraws (engineAfter s.S 1) r) ∧
      r.toNat < 0x3F800000 ∧
      ((rawWord s.S 0).toNat / 2 ^ 40 = 0 → r = 0#64) ∧
      ((rawWord s.S 0).toNat / 2 ^ 40 ≠ 0 →
        0 < r.toNat / 2 ^ 23 ∧
        (2 ^ 23 + r.toNat % 2 ^ 23) * 2 ^ (r.toNat / 2 ^ 23) = (rawWord s.S 0).toNat / 2 ^ 40 * 2 ^ 126)) ∧
    (s.SEEDED = false → exec (.f32 a) s = .next (s.afterError .notSeeded))

/-! ## Floating point (spec/00_scope.md R13, R14) -/

/-- R13: the rounding is to the nearest binary64, ties to even, and every operator rounds its exact result once. For n/d
units of `2^-1074`: no finite binary64 is nearer than the rounded one; where another is as near, the rounded pattern is
even; and the result is infinite exactly from halfway between the largest finite value and `2^1024` on. On finite operands
`fadd`, `fsub`, `fmul`, `fdiv` (by a value other than 0) and `cvt_u64_f64` give the rounding of the exact sum, difference,
product, quotient and integer, with the sign of IEEE-754 where the result is a zero; `fneg` is exact, and `flt` and `fle`
compare the exact values. -/
def Obligations.RoundingIsToNearestEven : Prop :=
  (∀ n d : Nat, 0 < d →
    (roundUnits n d = 2047 * 2 ^ 52 ↔ (2 ^ 54 - 1) * 2 ^ 2044 * d ≤ n) ∧
    (roundUnits n d < 2047 * 2 ^ 52 → ∀ z : Word, f64IsFinite z = true →
      |((f64Units (f64Pack false (roundUnits n d)) * d : Nat) : Int) - n| ≤ |((f64Units z * d : Nat) : Int) - n| ∧
      (|((f64Units (f64Pack false (roundUnits n d)) * d : Nat) : Int) - n| = |((f64Units z * d : Nat) : Int) - n| →
        f64Units z ≠ f64Units (f64Pack false (roundUnits n d)) → roundUnits n d % 2 = 0))) ∧
  (∀ (x y : Word) (u v : ℝ), IsValue x u → IsValue y v →
    RoundsTo (fadd x y) (u + v) ∧ (u + v = 0 → f64Sign (fadd x y) = (f64Sign x && f64Sign y)) ∧
    RoundsTo (fsub x y) (u - v) ∧ (u - v = 0 → f64Sign (fsub x y) = (f64Sign x && !f64Sign y)) ∧
    RoundsTo (fmul x y) (u * v) ∧ f64Sign (fmul x y) = (f64Sign x != f64Sign y) ∧
    (v ≠ 0 → RoundsTo (fdiv x y) (u / v) ∧ f64Sign (fdiv x y) = (f64Sign x != f64Sign y)) ∧
    IsValue (fneg x) (-u) ∧ f64Sign (fneg x) = !f64Sign x ∧
    (flt x y = true ↔ u < v) ∧ (fle x y = true ↔ u ≤ v)) ∧
  (∀ j : Nat, j < 2 ^ 64 → RoundsTo (cvtU64F64 j) j ∧ f64Sign (cvtU64F64 j) = false)

/-- R13: the operators on infinities and zeros that the tails meet: `x - (-inf) = +inf` for a finite x, `inf * inf = inf`,
`inf <= inf`, the two zeros compare equal, and a NaN compares with nothing. -/
def Obligations.InfinitiesAndZerosFollowIeee : Prop :=
  (∀ x : Word, f64IsFinite x = true → fsub x f64NegInf = f64Inf) ∧
  fmul f64Inf f64Inf = f64Inf ∧ fle f64Inf f64Inf = true ∧
  fle 0x8000000000000000#64 0#64 = true ∧ fle 0#64 0x8000000000000000#64 = true ∧
  flt 0x8000000000000000#64 0#64 = false ∧
  (∀ x y : Word, f64IsNaN x = true → flt x y = false ∧ fle x y = false ∧ flt y x = false ∧ fle y x = false)

/-- R14, D15: at every precision the computed bounds enclose the exact exponential; and the default `EXP64` of a finite
operand is the exact exponential rounded once. Where neither the operand is 0 nor its magnitude 746 or more, some working
precision must decide: that is the corner of log entry 4 (PRESUMED), and it is a hypothesis here. -/
def Obligations.ExpBoundsEncloseTheExponential : Prop :=
  (∀ p u : Nat, 8 ≤ p → u < 746 * 2 ^ 1074 →
    ((expBounds p u).1 : ℝ) ≤ Real.exp ((u : ℝ) / 2 ^ 1074) * 2 ^ p ∧
      Real.exp ((u : ℝ) / 2 ^ 1074) * 2 ^ p ≤ ((expBounds p u).2 : ℝ)) ∧
  ∀ (x : Word) (v : ℝ), IsValue x v → (f64Units x ≠ 0 → f64Units x < 746 * 2 ^ 1074 → ExpDecided x) →
    RoundsTo (exp64 x) (Real.exp v)

/-- R14, D15: at every precision the computed bounds enclose the exact logarithm; and the default `LN64` of a positive
finite operand is the exact logarithm rounded once. Where the operand is not 1, some working precision must decide: that is
the corner of log entry 4 (PRESUMED), and it is a hypothesis here. -/
def Obligations.LnBoundsEncloseTheLogarithm : Prop :=
  (∀ p u : Nat, 8 ≤ p → 0 < u →
    ((lnBounds p u).1 : ℝ) ≤ Real.log ((u : ℝ) / 2 ^ 1074) * 2 ^ p ∧
      Real.log ((u : ℝ) / 2 ^ 1074) * 2 ^ p ≤ ((lnBounds p u).2 : ℝ)) ∧
  ∀ (x : Word) (v : ℝ), IsValue x v → 0 < v → (v ≠ 1 → LnDecided x) → RoundsTo (ln64 x) (Real.log v)

/-- R14: the default `EXP64` and `LN64` have every property that the rules assume of the two parameters. -/
def Obligations.DefaultFunctionsAreLawful : Prop := Lawful defaultFunctions

/-! ## Ziggurat sampler (spec/44_ziggurat_sampler.md) -/

/-- R130, R132: `NORM` with `j < KN[i]` returns the candidate with the sign of its word, having drawn one word; `KN[1]` is
0. -/
def Obligations.NormFastPath : Prop :=
  tableKN 1 = 0 ∧
  ∀ (a : Word) (s : State), s.SEEDED = true →
    (rawWord s.S 0).toNat % 2 ^ 63 / 2 ^ 8 < tableKN ((rawWord s.S 0).toNat % 2 ^ 8) →
    exec (.norm a) s = .next (s.afterDraws (engineAfter s.S 1)
      (withSign (decide (2 ^ 63 ≤ (rawWord s.S 0).toNat))
        (fmul (cvtU64F64 ((rawWord s.S 0).toNat % 2 ^ 63 / 2 ^ 8)) (tableWN ((rawWord s.S 0).toNat % 2 ^ 8)))))

/-- R134: in a layer i >= 1 with `j >= KN[i]`, `NORM` draws one uniform; if the wedge test holds it returns the candidate
with its sign, two words drawn, and otherwise it starts again from the engine state after those two words. -/
def Obligations.NormWedgeTest : Prop :=
  ∀ (a : Word) (s : State) (i j : Nat) (x lhs rhs : Word), s.SEEDED = true →
    i = (rawWord s.S 0).toNat % 2 ^ 8 → j = (rawWord s.S 0).toNat % 2 ^ 63 / 2 ^ 8 → 1 ≤ i → tableKN i ≤ j →
    x = fmul (cvtU64F64 j) (tableWN i) →
    lhs = fadd (tableFN i) (fmul (uniformOf (rawWord s.S 1)) (fsub (tableFN (i - 1)) (tableFN i))) →
    rhs = exp64 (fmul 0xBFE0000000000000#64 (fmul x x)) →
    (flt lhs rhs = true →
      exec (.norm a) s = .next (s.afterDraws (engineAfter s.S 2)
        (withSign (decide (2 ^ 63 ≤ (rawWord s.S 0).toNat)) x))) ∧
    (flt lhs rhs = false → exec (.norm a) s = exec (.norm a) (s.setS (engineAfter s.S 2)))

/-- R133: in layer 0 with `j >= KN[0]`, `NORM` draws pairs of uniforms, U1 first, until one is accepted; after k rejected
pairs it returns `RN + xt` with the sign of the first word, having drawn `1 + 2(k+1)` words. -/
def Obligations.NormTail : Prop :=
  ∀ (a : Word) (s : State) (k : Nat) (xt y : Nat → Word), s.SEEDED = true →
    (rawWord s.S 0).toNat % 2 ^ 8 = 0 → tableKN 0 ≤ (rawWord s.S 0).toNat % 2 ^ 63 / 2 ^ 8 →
    (∀ m, xt m = fdiv (fneg (ln64 (uniformOf (rawWord s.S (1 + 2 * m))))) constRN) →
    (∀ m, y m = fneg (ln64 (uniformOf (rawWord s.S (2 + 2 * m))))) →
    (∀ m, m < k → fle (fmul (xt m) (xt m)) (fadd (y m) (y m)) = false) →
    fle (fmul (xt k) (xt k)) (fadd (y k) (y k)) = true →
    exec (.norm a) s = .next (s.afterDraws (engineAfter s.S (1 + 2 * (k + 1)))
      (withSign (decide (2 ^ 63 ≤ (rawWord s.S 0).toNat)) (fadd constRN (xt k))))

/-- R135, R137: `EXP` with `j < KE[i]` returns the candidate, having drawn one word; `KE[1]` is 0. -/
def Obligations.ExpFastPath : Prop :=
  tableKE 1 = 0 ∧
  ∀ (a : Word) (s : State), s.SEEDED = true →
    (rawWord s.S 0).toNat / 2 ^ 8 < tableKE ((rawWord s.S 0).toNat % 2 ^ 8) →
    exec (.exp a) s = .next (s.afterDraws (engineAfter s.S 1)
      (fmul (cvtU64F64 ((rawWord s.S 0).toNat / 2 ^ 8)) (tableWE ((rawWord s.S 0).toNat % 2 ^ 8))))

/-- R139: in a layer i >= 1 with `j >= KE[i]`, `EXP` draws one uniform; if the wedge test holds it returns the candidate,
two words drawn, and otherwise it starts again from the engine state after those two words. -/
def Obligations.ExpWedgeTest : Prop :=
  ∀ (a : Word) (s : State) (i j : Nat) (x lhs rhs : Word), s.SEEDED = true →
    i = (rawWord s.S 0).toNat % 2 ^ 8 → j = (rawWord s.S 0).toNat / 2 ^ 8 → 1 ≤ i → tableKE i ≤ j →
    x = fmul (cvtU64F64 j) (tableWE i) →
    lhs = fadd (tableFE i) (fmul (uniformOf (rawWord s.S 1)) (fsub (tableFE (i - 1)) (tableFE i))) →
    rhs = exp64 (fneg x) →
    (flt lhs rhs = true → exec (.exp a) s = .next (s.afterDraws (engineAfter s.S 2) x)) ∧
    (flt lhs rhs = false → exec (.exp a) s = exec (.exp a) (s.setS (engineAfter s.S 2)))

/-- R138: in layer 0 with `j >= KE[0]`, `EXP` draws one uniform U and returns `RE - LN64(U)`, with no loop. -/
def Obligations.ExpTail : Prop :=
  ∀ (a : Word) (s : State), s.SEEDED = true →
    (rawWord s.S 0).toNat % 2 ^ 8 = 0 → tableKE 0 ≤ (rawWord s.S 0).toNat / 2 ^ 8 →
    exec (.exp a) s = .next (s.afterDraws (engineAfter s.S 2) (fsub constRE (ln64 (uniformOf (rawWord s.S 1)))))

/-- R238: with the default engine, tables and functions, `NORM` and `EXP` are answered by a seeded instance from every
engine state: the sampling ends. That it ends is a theorem about the default instance, which the spec does not claim. -/
def Obligations.DeviatesAreAlwaysAnswered : Prop :=
  ∀ (a : Word) (s : State), s.SEEDED = true →
    (∃ e r, exec (.norm a) s = .next (s.afterDraws e r)) ∧ (∃ e r, exec (.exp a) s = .next (s.afterDraws e r))

/-- R141: with any functions that R14 allows and from any source of words, neither sampler returns a NaN, and `EXP` returns
no value with a sign; nor do the commands of an instance with such functions and any `STEP`. -/
def Obligations.DeviatesAreNeverNaN : Prop :=
  (∀ (fns : Transcendentals), Lawful fns → ∀ (σ : Type) (next : Source σ) (s s' : σ) (r : Word),
    (normSample fns next s = some (r, s') → f64IsNaN r = false) ∧
    (expSample fns next s = some (r, s') → f64IsNaN r = false ∧ f64Sign r = false)) ∧
  ∀ (par : Parameters), Lawful par.functions → ∀ (a : Word) (s : State) (e : Engine) (r : Word),
    (execWith par (.norm a) s = .next (s.afterDraws e r) → f64IsNaN r = false) ∧
    (execWith par (.exp a) s = .next (s.afterDraws e r) → f64IsNaN r = false ∧ f64Sign r = false)

/-! ## The table ROM (spec/20_memory.md R42, R43; spec/45, 46) -/

/-- R42, R43, R208: `ZROM` returns the mapped entry and answers `AddressError`, code 7, for every other index, in every
state, seeded or not; nothing else changes. -/
def Obligations.ZromReadsTheMap : Prop :=
  ∀ (a : Word) (s : State),
    decode (0x2A#8 ++ a) = .ok (.zrom a) ∧
    (∀ i, i < 256 →
      (a.toNat = 0x000 + i → exec (.zrom a) s = .next (s.afterDraws s.S (normalLayer i).k)) ∧
      (a.toNat = 0x100 + i → exec (.zrom a) s = .next (s.afterDraws s.S (normalLayer i).w)) ∧
      (a.toNat = 0x200 + i → exec (.zrom a) s = .next (s.afterDraws s.S (normalLayer i).f)) ∧
      (a.toNat = 0x400 + i → exec (.zrom a) s = .next (s.afterDraws s.S (exponentialLayer i).k)) ∧
      (a.toNat = 0x500 + i → exec (.zrom a) s = .next (s.afterDraws s.S (exponentialLayer i).w)) ∧
      (a.toNat = 0x600 + i → exec (.zrom a) s = .next (s.afterDraws s.S (exponentialLayer i).f))) ∧
    (a.toNat = 0x300 → exec (.zrom a) s = .next (s.afterDraws s.S 0x400D3BB48209AD33#64)) ∧
    (a.toNat = 0x700 → exec (.zrom a) s = .next (s.afterDraws s.S 0x401EC9D9297EBB83#64)) ∧
    ((0x301 ≤ a.toNat ∧ a.toNat ≤ 0x3FF) ∨ (0x701 ≤ a.toNat ∧ a.toNat ≤ 0x7FF) ∨ 0x800 ≤ a.toNat →
      exec (.zrom a) s = .next (s.afterError .addressError)) ∧
    Status.addressError.code = 7#4

/-- R154, R159: the exclusive or and the sum modulo `2^64` of the 769 words of each table set. -/
def Obligations.TablesMeetTheirChecksums : Prop :=
  (((List.range 256).map (fun i => (normalLayer i).k) ++ (List.range 256).map (fun i => (normalLayer i).w) ++
      (List.range 256).map (fun i => (normalLayer i).f) ++ [normalTail]).foldl (fun x y => x ^^^ y) 0#64 =
      0x405128B81E335DA0#64 ∧
    ((List.range 256).map (fun i => (normalLayer i).k) ++ (List.range 256).map (fun i => (normalLayer i).w) ++
      (List.range 256).map (fun i => (normalLayer i).f) ++ [normalTail]).foldl (fun x y => x + y) 0#64 =
      0x1298F26F3825834E#64) ∧
  (((List.range 256).map (fun i => (exponentialLayer i).k) ++ (List.range 256).map (fun i => (exponentialLayer i).w) ++
      (List.range 256).map (fun i => (exponentialLayer i).f) ++ [exponentialTail]).foldl (fun x y => x ^^^ y) 0#64 =
      0x403BE43EAA4F7416#64 ∧
    ((List.range 256).map (fun i => (exponentialLayer i).k) ++ (List.range 256).map (fun i => (exponentialLayer i).w) ++
      (List.range 256).map (fun i => (exponentialLayer i).f) ++ [exponentialTail]).foldl (fun x y => x + y) 0#64 =
      0x74BCAA4EE9BCAD40#64)

/-- R153, R158: the properties of the literal tables that the sampler relies on: the thresholds are below the scale and
`K[1] = 0`; `F` falls from 1.0 and stays positive; `W` rises; every `W` and `F` is a positive normal number; the tail
constants are positive and finite; the largest thresholds. -/
def Obligations.TablesAreWellShaped : Prop :=
  ((∀ i, i < 256 → (normalLayer i).k.toNat < 2 ^ 55 ∧ (normalLayer i).k.toNat ≤ (normalLayer 157).k.toNat) ∧
    (normalLayer 1).k = 0#64 ∧ (normalLayer 157).k = 0x007F754A814B207A#64 ∧ (normalLayer 0).f = f64One ∧
    (∀ i, i < 255 →
      flt (normalLayer (i + 1)).f (normalLayer i).f = true ∧ flt 0#64 (normalLayer (i + 1)).f = true) ∧
    (∀ i, 1 ≤ i → i < 255 → flt 0#64 (normalLayer i).w = true ∧ flt (normalLayer i).w (normalLayer (i + 1)).w = true) ∧
    (∀ i, i < 256 →
      f64Sign (normalLayer i).w = false ∧ 0 < f64Exp (normalLayer i).w ∧ f64Exp (normalLayer i).w < 2047 ∧
      f64Sign (normalLayer i).f = false ∧ 0 < f64Exp (normalLayer i).f ∧ f64Exp (normalLayer i).f < 2047) ∧
    flt 0#64 normalTail = true ∧ f64IsFinite normalTail = true) ∧
  ((∀ i, i < 256 → (exponentialLayer i).k.toNat < 2 ^ 56 ∧
      (exponentialLayer i).k.toNat ≤ (exponentialLayer 153).k.toNat) ∧
    (exponentialLayer 1).k = 0#64 ∧ (exponentialLayer 153).k = 0x00FE254E70B754FB#64 ∧
    (exponentialLayer 0).f = f64One ∧
    (∀ i, i < 255 →
      flt (exponentialLayer (i + 1)).f (exponentialLayer i).f = true ∧
      flt 0#64 (exponentialLayer (i + 1)).f = true) ∧
    (∀ i, 1 ≤ i → i < 255 →
      flt 0#64 (exponentialLayer i).w = true ∧ flt (exponentialLayer i).w (exponentialLayer (i + 1)).w = true) ∧
    (∀ i, i < 256 →
      f64Sign (exponentialLayer i).w = false ∧ 0 < f64Exp (exponentialLayer i).w ∧
      f64Exp (exponentialLayer i).w < 2047 ∧
      f64Sign (exponentialLayer i).f = false ∧ 0 < f64Exp (exponentialLayer i).f ∧
      f64Exp (exponentialLayer i).f < 2047) ∧
    flt 0#64 exponentialTail = true ∧ f64IsFinite exponentialTail = true)

/-! ## Permutation engine (spec/47_permutation_engine.md) -/

/-- R162, R163: `SHUF n`, when no draw is rejected, emits for i = n-1 down to 1 the pair (i, j) with j the next raw word
modulo i + 1, answers the number of pairs, and has drawn one word a pair; for n = 0 and n = 1 it emits nothing and draws
nothing. -/
def Obligations.ShuffleWithoutRejection : Prop :=
  ∀ (a : Word) (s : State), s.SEEDED = true → a.toNat < 2 ^ 63 →
    (∀ k, k < a.toNat - 1 → (rawWord s.S k).toNat < 2 ^ 64 - 2 ^ 64 % (a.toNat - k)) →
    exec (.shuf a) s = .next { s with
      S := engineAfter s.S (a.toNat - 1)
      CMD := s.CMD.tail
      OUT := s.OUT ++
        (List.range (a.toNat - 1)).map
          (fun k => OutItem.swp (word (a.toNat - 1 - k)) (word ((rawWord s.S k).toNat % (a.toNat - k)))) ++
        [.rsp ⟨.ok, word (a.toNat - 1)⟩] }

/-- R162, R238: `SHUF` with a size that is not negative is answered by a seeded instance: its pairs have i = n-1 down to 1
and `j <= i`, `R` is their number, and only `S` changes beside the channels. That it is answered rests on the default engine
ending its redraw loops from every state (log entries 2 and 3), a theorem about that engine which the spec does not
claim. -/
def Obligations.ShufflePairsAreInRange : Prop :=
  ∀ (a : Word) (s : State), s.SEEDED = true → a.toNat < 2 ^ 63 →
    ∃ (e : Engine) (js : List Nat), js.length = a.toNat - 1 ∧
      (∀ k, k < a.toNat - 1 → js.getD k 0 ≤ a.toNat - 1 - k) ∧
      exec (.shuf a) s = .next { s with
        S := e
        CMD := s.CMD.tail
        OUT := s.OUT ++
          (List.range (a.toNat - 1)).map (fun k => OutItem.swp (word (a.toNat - 1 - k)) (word (js.getD k 0))) ++
          [.rsp ⟨.ok, word (a.toNat - 1)⟩] }

/-- R161, R165, R238: `PERM` with `0 <= n <= PERM_MAX` is answered by a seeded instance: it emits n values that are a
permutation of `0..n-1`, answers n, leaves them in the first n entries of the scratch RAM and every other entry as it was,
and changes nothing else but `S`. That it is answered rests on the default engine ending its redraw loops from every state
(log entries 2 and 3), a theorem about that engine which the spec does not claim. -/
def Obligations.PermEmitsAPermutation : Prop :=
  ∀ (a : Word) (s : State), s.SEEDED = true → a.toNat ≤ 65536 →
    ∃ (e : Engine) (p : List (Nat × Word)) (vs : List Nat), vs.Perm (List.range a.toNat) ∧
      (∀ i, scratchLookup i p = if i < a.toNat then some (word (vs.getD i 0)) else scratchLookup i s.P) ∧
      exec (.perm a) s = .next { s with
        S := e
        P := p
        CMD := s.CMD.tail
        OUT := s.OUT ++ vs.map (fun v => OutItem.vout (word v)) ++ [.rsp ⟨.ok, a⟩] }

/-- R164, R238: from the same state and for the same n up to `PERM_MAX`, `PERM` and `SHUF` leave the same `S`, and the
sequence `PERM` emits is what the pairs `SHUF` emits make of `0, 1, ..., n-1` when they are applied in order; the indices
of every pair lie in the sequence, `j <= i < n`, and the items of `SWP` are these very numbers. That both are answered rests on the default engine ending its redraw loops from every state (log entries 2 and 3), a theorem about that
engine which the spec does not claim. -/
def Obligations.PermAgreesWithShuffle : Prop :=
  ∀ (a : Word) (s : State), s.SEEDED = true → a.toNat ≤ 65536 →
    ∃ (t u : State) (swaps : List (Nat × Nat)),
      exec (.perm a) s = .next t ∧ exec (.shuf a) s = .next u ∧ t.S = u.S ∧
      (∀ x ∈ swaps, x.1 < a.toNat ∧ x.2 ≤ x.1) ∧
      u.OUT = s.OUT ++ swaps.map swapItem ++ [.rsp ⟨.ok, word swaps.length⟩] ∧
      t.OUT = s.OUT ++ (applySwaps (List.range a.toNat) swaps).map (fun v => OutItem.vout (word v)) ++ [.rsp ⟨.ok, a⟩]

/-- R203, R207: a negative size is answered `InvalidArgument` by `PERM`, `SHUF` and `READ`, and a size above `PERM_MAX` is
answered `CapacityError` by `PERM`, on a seeded instance, be `PERM_MAX` the default or any other number (R167); nothing is
drawn, emitted or changed. -/
def Obligations.SizesOutOfRangeAreErrors : Prop :=
  ∀ (a : Word) (s : State), s.SEEDED = true →
    (2 ^ 63 ≤ a.toNat →
      exec (.perm a) s = .next (s.afterError .invalidArgument) ∧
      exec (.shuf a) s = .next (s.afterError .invalidArgument) ∧
      exec (.read a) s = .next (s.afterError .invalidArgument)) ∧
    (65536 < a.toNat → a.toNat < 2 ^ 63 → exec (.perm a) s = .next (s.afterError .capacityError)) ∧
    (∀ par : Parameters, par.permMax < a.toNat → a.toNat < 2 ^ 63 →
      execWith par (.perm a) s = .next (s.afterError .capacityError)) ∧
    Status.invalidArgument.code = 2#4 ∧ Status.capacityError.code = 6#4

/-! ## Byte stream (spec/48_byte_stream.md) -/

/-- R171, R172, R176: `READ len` emits the next len bytes of the byte stream and answers len. If the held bytes cover it,
no word is drawn; otherwise `ceil((len - RDC) / 8)` words are drawn, and the leftover is what remains of the last one. -/
def Obligations.ReadDeliversTheByteStream : Prop :=
  ∀ (a : Word) (s : State), s.SEEDED = true → a.toNat < 2 ^ 63 →
    ∃ t : State, exec (.read a) s = .next t ∧
      t.OUT = s.OUT ++
        (List.range a.toNat).map (fun k => OutItem.bout (streamByte s.S s.RDV s.RDC.toNat k)) ++ [.rsp ⟨.ok, a⟩] ∧
      (a.toNat ≤ s.RDC.toNat →
        t.S = s.S ∧ t.RDC.toNat = s.RDC.toNat - a.toNat ∧ t.RDV.toNat = s.RDV.toNat / 2 ^ (8 * a.toNat)) ∧
      (s.RDC.toNat < a.toNat →
        t.S = engineAfter s.S ((a.toNat - s.RDC.toNat + 7) / 8) ∧
        t.RDC.toNat = (8 - (a.toNat - s.RDC.toNat) % 8) % 8 ∧
        t.RDV.toNat = (rawWord s.S ((a.toNat - s.RDC.toNat + 7) / 8 - 1)).toNat /
          2 ^ (8 * (8 - (8 - (a.toNat - s.RDC.toNat) % 8) % 8))) ∧
      t.SEEDED = s.SEEDED ∧ t.P = s.P ∧ t.DIN = s.DIN ∧ t.CMD = s.CMD.tail

/-- R173: for any split `len = a + b`, `READ a` then `READ b` sends the same bytes and ends in the same `S`, `RDV`, `RDC`
as `READ len`. -/
def Obligations.ReadGranularityDoesNotMatter : Prop :=
  ∀ (a b : Word) (s : State), s.SEEDED = true → a.toNat + b.toNat < 2 ^ 63 →
    ∃ t₁ t₂ t : State, exec (.read a) s = .next t₁ ∧ exec (.read b) t₁ = .next t₂ ∧ exec (.read (a + b)) s = .next t ∧
      boutOf t₂.OUT = boutOf t.OUT ∧ t₂.S = t.S ∧ t₂.RDV = t.RDV ∧ t₂.RDC = t.RDC

/-! ## State codec (spec/49_state_codec.md) -/

/-- R181, R182, R183: `MARSHAL` emits the 25 bytes of the snapshot, answers 25 and changes no state. -/
def Obligations.MarshalEmitsTheSnapshot : Prop :=
  ∀ (a : Word) (s : State),
    decode (0x40#8 ++ a) = .ok (.marshal a) ∧
    (s.SEEDED = true → ∃ b : List Byte, b.length = 25 ∧
      exec (.marshal a) s = .next { s with
        CMD := s.CMD.tail, OUT := s.OUT ++ b.map OutItem.bout ++ [.rsp ⟨.ok, 25#64⟩] } ∧
      b.getD 0 0#8 = 0x01#8 ∧
      (∀ k, k < 16 → (b.getD (1 + k) 0#8).toNat = s.S.toNat / 2 ^ (8 * k) % 256) ∧
      (b.getD 17 0#8).toNat = s.RDC.toNat ∧
      (∀ k, k < 7 → (b.getD (18 + k) 0#8).toNat = s.RDV.toNat / 2 ^ (8 * k) % 256)) ∧
    (s.SEEDED = false → exec (.marshal a) s = .next (s.afterError .notSeeded))

/-- R184, R204: with its L = `A` payload bytes on `DIN`, `UNMARSHAL` takes exactly them, seeded or not; a payload of 25
bytes with version 1, count at most 7 and zero padding sets `S`, `RDC`, `RDV`, `SEEDED`; any other is answered
`FormatError`, code 3, and changes nothing else. -/
def Obligations.UnmarshalChecksAndRestores : Prop :=
  ∀ (a : Word) (s : State) (b rest : List Byte), s.DIN = b ++ rest → b.length = a.toNat →
    decode (0x41#8 ++ a) = .ok (.unmarshal a) ∧
    (b.length = 25 ∧ b.getD 0 0#8 = 0x01#8 ∧ (b.getD 17 0#8).toNat ≤ 7 ∧
        (∀ k, (b.getD 17 0#8).toNat ≤ k → k < 7 → b.getD (18 + k) 0#8 = 0#8) →
      exec (.unmarshal a) s = .next { s with
        S := BitVec.ofNat 128 (∑ k ∈ Finset.range 16, (b.getD (1 + k) 0#8).toNat * 2 ^ (8 * k))
        RDV := word (∑ k ∈ Finset.range 7, (b.getD (18 + k) 0#8).toNat * 2 ^ (8 * k))
        RDC := BitVec.ofNat 3 (b.getD 17 0#8).toNat
        SEEDED := true
        DIN := rest
        CMD := s.CMD.tail
        OUT := s.OUT ++ [.rsp ⟨.ok, 0#64⟩] }) ∧
    (¬ (b.length = 25 ∧ b.getD 0 0#8 = 0x01#8 ∧ (b.getD 17 0#8).toNat ≤ 7 ∧
        (∀ k, (b.getD 17 0#8).toNat ≤ k → k < 7 → b.getD (18 + k) 0#8 = 0#8)) →
      exec (.unmarshal a) s = .next { s with
        DIN := rest, CMD := s.CMD.tail, OUT := s.OUT ++ [.rsp ⟨.formatError, 0#64⟩] }) ∧
    Status.formatError.code = 3#4

/-- R241: with fewer than L = `A` bytes on `DIN`, `UNMARSHAL` waits and is not answered. That the step then answers the
same state, with nothing taken from `DIN` and the command still first in `CMD`, is the model's choice (log entry 6, DESIGN
CHOICE): R241 says only that the command waits, and R184 takes the bytes one by one. -/
def Obligations.UnmarshalWaitsForItsPayload : Prop :=
  ∀ (a : Word) (s : State), s.DIN.length < a.toNat → exec (.unmarshal a) s = .next s

/-- R185: an instance that is given the snapshot another emitted is afterwards in the state the other was in. -/
def Obligations.SnapshotResumesExactly : Prop :=
  ∀ (a : Word) (g h : State) (b : List Byte) (rest : List Byte) (t : State),
    g.SEEDED = true → LeftoverCanonical g →
    exec (.marshal a) g = .next t → t.OUT = g.OUT ++ b.map OutItem.bout ++ [.rsp ⟨.ok, 25#64⟩] →
    h.DIN = b ++ rest →
    exec (.unmarshal 25#64) h = .next { h with
      S := g.S, RDV := g.RDV, RDC := g.RDC, SEEDED := true, DIN := rest, CMD := h.CMD.tail,
      OUT := h.OUT ++ [.rsp ⟨.ok, 0#64⟩] }

/-- R186: every payload `UNMARSHAL` accepts is the string `MARSHAL` then emits. -/
def Obligations.RemarshalIsExact : Prop :=
  ∀ (a : Word) (s t : State) (b rest : List Byte), s.DIN = b ++ rest → b.length = 25 →
    exec (.unmarshal 25#64) s = .next t → t.OUT = s.OUT ++ [.rsp ⟨.ok, 0#64⟩] →
    ∃ u : State, exec (.marshal a) t = .next u ∧ u.OUT = t.OUT ++ b.map OutItem.bout ++ [.rsp ⟨.ok, 25#64⟩]

/-! ## Errors and the whole machine (spec/60_exceptions.md, spec/10_state.md R33) -/

/-- R206: while `SEEDED = 0` every command but `SEED`, `UNMARSHAL` and `ZROM` is answered `ST = 5`, `R = 0`, whatever its
operand, and nothing else changes. Once `SEEDED = 1`, no command answers so and no command clears the flag. -/
def Obligations.UnseededCommandsAreTurnedAway : Prop :=
  (∀ (i : Instr) (s : State), s.SEEDED = false →
    (∀ a, i ≠ .seed a) → (∀ a, i ≠ .unmarshal a) → (∀ a, i ≠ .zrom a) →
    exec i s = .next { s with CMD := s.CMD.tail, OUT := s.OUT ++ [.rsp ⟨.notSeeded, 0#64⟩] } ∧
      Status.notSeeded.code = 5#4) ∧
  (∀ (i : Instr) (s t : State), s.SEEDED = true → exec i s = .next t →
    t.SEEDED = true ∧ t.OUT ≠ s.OUT ++ [.rsp ⟨.notSeeded, 0#64⟩])

/-- R47, R61, R201, R209, R213, R241: a command is answered at most once, and exactly once unless it waits. Either it is an
`UNMARSHAL` whose payload is incomplete, which is not answered; or it leaves the command channel, its items, all on its one
stream, come before its one response, and the status is one the table of R209 allows it. R241 says only that such an
`UNMARSHAL` waits: that the step then answers the same state is the model's choice (log entry 6, DESIGN CHOICE). The
response word has the status code of R201 in bits 67:64 and the result in bits 63:0. -/
def Obligations.OneResponsePerCommand : Prop :=
  (∀ x : Response, x.bits.toNat = x.st.code.toNat * 2 ^ 64 + x.r.toNat) ∧
  (Status.ok.code = 0#4 ∧ Status.domainError.code = 1#4 ∧ Status.invalidArgument.code = 2#4 ∧
    Status.formatError.code = 3#4 ∧ Status.illegalCommand.code = 4#4 ∧ Status.notSeeded.code = 5#4 ∧
    Status.capacityError.code = 6#4 ∧ Status.addressError.code = 7#4) ∧
  ∀ (i : Instr) (s t : State), exec i s = .next t →
    (t = s ∧ ∃ a, i = .unmarshal a ∧ s.DIN.length < a.toNat) ∨
    (t.CMD = s.CMD.tail ∧ ∃ (items : List OutItem) (x : Response), t.OUT = s.OUT ++ items ++ [.rsp x] ∧
      (∀ y ∈ items, onItsStream i y = true) ∧ x.st ∈ possibleStatuses i ∧ (x.st ≠ .ok → items = [] ∧ x.r = 0#64))

/-- R211, R213: a command answered with an error has `R = 0`, has emitted nothing and has changed no state element; only an
`UNMARSHAL` has taken anything, its payload from `DIN`. -/
def Obligations.ErrorsChangeNothing : Prop :=
  ∀ (i : Instr) (s t : State) (sent : List OutItem) (x : Response), exec i s = .next t →
    s.OUT.length < t.OUT.length → t.OUT = sent ++ [.rsp x] → x.st ≠ .ok →
    sent = s.OUT ∧ x.r = 0#64 ∧ t.S = s.S ∧ t.RDV = s.RDV ∧ t.RDC = s.RDC ∧ t.SEEDED = s.SEEDED ∧ t.P = s.P ∧
      (t.DIN = s.DIN ∨ ∃ a, i = .unmarshal a ∧ t.DIN = s.DIN.drop a.toNat)

/-- R22, R46, R66, R174, R182: who writes what. `RDV` and `RDC` change only in `SEED`, `READ` and `UNMARSHAL`; the scratch
RAM only in `PERM`; `DIN` only in `UNMARSHAL`; and `ZROM` and `MARSHAL` change no register at all. -/
def Obligations.RegistersHaveTheirWriters : Prop :=
  ∀ (i : Instr) (s t : State), exec i s = .next t →
    ((∀ a, i ≠ .seed a) → (∀ a, i ≠ .read a) → (∀ a, i ≠ .unmarshal a) → t.RDV = s.RDV ∧ t.RDC = s.RDC) ∧
    ((∀ a, i ≠ .perm a) → t.P = s.P) ∧
    ((∀ a, i ≠ .unmarshal a) → t.DIN = s.DIN) ∧
    ((∃ a, i = .zrom a ∨ i = .marshal a) → t.S = s.S)

/-- R63: the operands and parts of operands that a command ignores have no effect on it, in any state. -/
def Obligations.IgnoredOperandBitsHaveNoEffect : Prop :=
  ∀ (a b : Word) (s : State),
    (exec (.u64 a) s = exec (.u64 b) s ∧ exec (.u32 a) s = exec (.u32 b) s ∧ exec (.i63 a) s = exec (.i63 b) s ∧
      exec (.i31 a) s = exec (.i31 b) s ∧ exec (.int a) s = exec (.int b) s ∧ exec (.f64 a) s = exec (.f64 b) s ∧
      exec (.f32 a) s = exec (.f32 b) s ∧ exec (.norm a) s = exec (.norm b) s ∧ exec (.exp a) s = exec (.exp b) s ∧
      exec (.marshal a) s = exec (.marshal b) s) ∧
    (a.toNat % 2 ^ 32 = b.toNat % 2 ^ 32 →
      exec (.u32n a) s = exec (.u32n b) s ∧ exec (.i31n a) s = exec (.i31n b) s)

/-- R44, R46: no command reaches an entry of the scratch RAM that does not exist or that it has not written, so no command
faults, in any state, whatever the parameters of the instance. -/
def Obligations.CommandsNeverFault : Prop :=
  ∀ (i : Instr) (s : State), ¬ IsFault (exec i s) ∧ ∀ par : Parameters, ¬ IsFault (execWith par i s)

/-- R213, R238, R241: in every state, every step of the default instance has a next state: no command faults or is refused,
and every rejection loop ends. That the loops end is a theorem about the default instance (log entries 2 and 3), which the
spec does not claim. A step that waits counts as one: that an `UNMARSHAL` with an incomplete payload, and a step with no
command presented, answer the same state is the model's choice (log entry 6, DESIGN CHOICE; U12 of the spec would also have
such an `UNMARSHAL` stuck or refused), and the waiting command is not answered. -/
def Obligations.EveryStepGoesOn : Prop := ∀ s : State, ∃ t : State, step s = .next t

/-- R33: two instances in the same state give the same response and the same streams to the same command, and are in the
same state afterwards, whatever the parameters the two share. The scratch RAM does not count, nor do the registers of an
unseeded instance. -/
def Obligations.SameStateSameBehaviour : Prop :=
  ∀ (i : Instr) (s t : State), SameState s t →
    SameOutcome (exec i s) (exec i t) ∧ ∀ par : Parameters, SameOutcome (execWith par i s) (execWith par i t)

/-- R230, R232: the unspecified values after a hardware reset cannot be observed: whatever they are, every run from there,
of commands presented, bytes put on `DIN`, things taken and steps in any order, has the same outcome. -/
def Obligations.ResetValuesAreUnobservable : Prop :=
  ∀ (s t : State), HardwareReset s → HardwareReset t → ∀ moves : List Move,
    SameOutcome (perform step moves s) (perform step moves t) ∧
      ∀ par : Parameters, SameOutcome (perform (stepWith par) moves s) (perform (stepWith par) moves t)
end

