-- ==== Sys2Proof/Laws/State.lean ====
section
/-! SUPPORT. One lemma per field per update of State, each true by rfl, so that no proof unfolds a record update. -/

namespace Sys2Proof.Machine

/-! ## `setS` -/

@[simp] theorem State.setS_S (s : State) (v : Engine) : (s.setS v).S = v := rfl
@[simp] theorem State.setS_RDV (s : State) (v : Engine) : (s.setS v).RDV = s.RDV := rfl
@[simp] theorem State.setS_RDC (s : State) (v : Engine) : (s.setS v).RDC = s.RDC := rfl
@[simp] theorem State.setS_SEEDED (s : State) (v : Engine) : (s.setS v).SEEDED = s.SEEDED := rfl
@[simp] theorem State.setS_P (s : State) (v : Engine) : (s.setS v).P = s.P := rfl
@[simp] theorem State.setS_CMD (s : State) (v : Engine) : (s.setS v).CMD = s.CMD := rfl
@[simp] theorem State.setS_DIN (s : State) (v : Engine) : (s.setS v).DIN = s.DIN := rfl
@[simp] theorem State.setS_OUT (s : State) (v : Engine) : (s.setS v).OUT = s.OUT := rfl

/-! ## `setLeftover` -/

@[simp] theorem State.setLeftover_S (s : State) (v : Word) (c : BitVec 3) : (s.setLeftover v c).S = s.S := rfl
@[simp] theorem State.setLeftover_RDV (s : State) (v : Word) (c : BitVec 3) : (s.setLeftover v c).RDV = v := rfl
@[simp] theorem State.setLeftover_RDC (s : State) (v : Word) (c : BitVec 3) : (s.setLeftover v c).RDC = c := rfl
@[simp] theorem State.setLeftover_SEEDED (s : State) (v : Word) (c : BitVec 3) : (s.setLeftover v c).SEEDED = s.SEEDED := rfl
@[simp] theorem State.setLeftover_P (s : State) (v : Word) (c : BitVec 3) : (s.setLeftover v c).P = s.P := rfl
@[simp] theorem State.setLeftover_CMD (s : State) (v : Word) (c : BitVec 3) : (s.setLeftover v c).CMD = s.CMD := rfl
@[simp] theorem State.setLeftover_DIN (s : State) (v : Word) (c : BitVec 3) : (s.setLeftover v c).DIN = s.DIN := rfl
@[simp] theorem State.setLeftover_OUT (s : State) (v : Word) (c : BitVec 3) : (s.setLeftover v c).OUT = s.OUT := rfl

/-! ## `setP` -/

@[simp] theorem State.setP_S (s : State) (p : List (Nat × Word)) : (s.setP p).S = s.S := rfl
@[simp] theorem State.setP_RDV (s : State) (p : List (Nat × Word)) : (s.setP p).RDV = s.RDV := rfl
@[simp] theorem State.setP_RDC (s : State) (p : List (Nat × Word)) : (s.setP p).RDC = s.RDC := rfl
@[simp] theorem State.setP_SEEDED (s : State) (p : List (Nat × Word)) : (s.setP p).SEEDED = s.SEEDED := rfl
@[simp] theorem State.setP_P (s : State) (p : List (Nat × Word)) : (s.setP p).P = p := rfl
@[simp] theorem State.setP_CMD (s : State) (p : List (Nat × Word)) : (s.setP p).CMD = s.CMD := rfl
@[simp] theorem State.setP_DIN (s : State) (p : List (Nat × Word)) : (s.setP p).DIN = s.DIN := rfl
@[simp] theorem State.setP_OUT (s : State) (p : List (Nat × Word)) : (s.setP p).OUT = s.OUT := rfl

/-! ## `dropDin` -/

@[simp] theorem State.dropDin_S (s : State) (n : Nat) : (s.dropDin n).S = s.S := rfl
@[simp] theorem State.dropDin_RDV (s : State) (n : Nat) : (s.dropDin n).RDV = s.RDV := rfl
@[simp] theorem State.dropDin_RDC (s : State) (n : Nat) : (s.dropDin n).RDC = s.RDC := rfl
@[simp] theorem State.dropDin_SEEDED (s : State) (n : Nat) : (s.dropDin n).SEEDED = s.SEEDED := rfl
@[simp] theorem State.dropDin_P (s : State) (n : Nat) : (s.dropDin n).P = s.P := rfl
@[simp] theorem State.dropDin_CMD (s : State) (n : Nat) : (s.dropDin n).CMD = s.CMD := rfl
@[simp] theorem State.dropDin_DIN (s : State) (n : Nat) : (s.dropDin n).DIN = s.DIN.drop n := rfl
@[simp] theorem State.dropDin_OUT (s : State) (n : Nat) : (s.dropDin n).OUT = s.OUT := rfl

/-! ## `emit` -/

@[simp] theorem State.emit_S (s : State) (items : List OutItem) : (s.emit items).S = s.S := rfl
@[simp] theorem State.emit_RDV (s : State) (items : List OutItem) : (s.emit items).RDV = s.RDV := rfl
@[simp] theorem State.emit_RDC (s : State) (items : List OutItem) : (s.emit items).RDC = s.RDC := rfl
@[simp] theorem State.emit_SEEDED (s : State) (items : List OutItem) : (s.emit items).SEEDED = s.SEEDED := rfl
@[simp] theorem State.emit_P (s : State) (items : List OutItem) : (s.emit items).P = s.P := rfl
@[simp] theorem State.emit_CMD (s : State) (items : List OutItem) : (s.emit items).CMD = s.CMD := rfl
@[simp] theorem State.emit_DIN (s : State) (items : List OutItem) : (s.emit items).DIN = s.DIN := rfl
@[simp] theorem State.emit_OUT (s : State) (items : List OutItem) : (s.emit items).OUT = s.OUT ++ items := rfl

/-! ## `respond` -/

@[simp] theorem State.respond_S (s : State) (st : Status) (r : Word) : (s.respond st r).S = s.S := rfl
@[simp] theorem State.respond_RDV (s : State) (st : Status) (r : Word) : (s.respond st r).RDV = s.RDV := rfl
@[simp] theorem State.respond_RDC (s : State) (st : Status) (r : Word) : (s.respond st r).RDC = s.RDC := rfl
@[simp] theorem State.respond_SEEDED (s : State) (st : Status) (r : Word) : (s.respond st r).SEEDED = s.SEEDED := rfl
@[simp] theorem State.respond_P (s : State) (st : Status) (r : Word) : (s.respond st r).P = s.P := rfl
@[simp] theorem State.respond_CMD (s : State) (st : Status) (r : Word) : (s.respond st r).CMD = s.CMD.tail := rfl
@[simp] theorem State.respond_DIN (s : State) (st : Status) (r : Word) : (s.respond st r).DIN = s.DIN := rfl
@[simp] theorem State.respond_OUT (s : State) (st : Status) (r : Word) : (s.respond st r).OUT = s.OUT ++ [.rsp ⟨st, r⟩] := rfl

/-! ## `markSeeded` -/

@[simp] theorem State.markSeeded_S (s : State) : (s.markSeeded).S = s.S := rfl
@[simp] theorem State.markSeeded_RDV (s : State) : (s.markSeeded).RDV = s.RDV := rfl
@[simp] theorem State.markSeeded_RDC (s : State) : (s.markSeeded).RDC = s.RDC := rfl
@[simp] theorem State.markSeeded_SEEDED (s : State) : (s.markSeeded).SEEDED = true := rfl
@[simp] theorem State.markSeeded_P (s : State) : (s.markSeeded).P = s.P := rfl
@[simp] theorem State.markSeeded_CMD (s : State) : (s.markSeeded).CMD = s.CMD := rfl
@[simp] theorem State.markSeeded_DIN (s : State) : (s.markSeeded).DIN = s.DIN := rfl
@[simp] theorem State.markSeeded_OUT (s : State) : (s.markSeeded).OUT = s.OUT := rfl

/-! ## `setBuffer` -/

@[simp] theorem State.setBuffer_S (s : State) (b : ByteBuffer Engine) : (s.setBuffer b).S = b.source := rfl
@[simp] theorem State.setBuffer_RDV (s : State) (b : ByteBuffer Engine) : (s.setBuffer b).RDV = b.value := rfl
@[simp] theorem State.setBuffer_RDC (s : State) (b : ByteBuffer Engine) : (s.setBuffer b).RDC = BitVec.ofNat 3 b.count := rfl
@[simp] theorem State.setBuffer_SEEDED (s : State) (b : ByteBuffer Engine) : (s.setBuffer b).SEEDED = s.SEEDED := rfl
@[simp] theorem State.setBuffer_P (s : State) (b : ByteBuffer Engine) : (s.setBuffer b).P = s.P := rfl
@[simp] theorem State.setBuffer_CMD (s : State) (b : ByteBuffer Engine) : (s.setBuffer b).CMD = s.CMD := rfl
@[simp] theorem State.setBuffer_DIN (s : State) (b : ByteBuffer Engine) : (s.setBuffer b).DIN = s.DIN := rfl
@[simp] theorem State.setBuffer_OUT (s : State) (b : ByteBuffer Engine) : (s.setBuffer b).OUT = s.OUT := rfl

/-! ## `restore` -/

@[simp] theorem State.restore_S (s : State) (x : Snapshot) : (s.restore x).S = x.S := rfl
@[simp] theorem State.restore_RDV (s : State) (x : Snapshot) : (s.restore x).RDV = x.RDV := rfl
@[simp] theorem State.restore_RDC (s : State) (x : Snapshot) : (s.restore x).RDC = x.RDC := rfl
@[simp] theorem State.restore_SEEDED (s : State) (x : Snapshot) : (s.restore x).SEEDED = true := rfl
@[simp] theorem State.restore_P (s : State) (x : Snapshot) : (s.restore x).P = s.P := rfl
@[simp] theorem State.restore_CMD (s : State) (x : Snapshot) : (s.restore x).CMD = s.CMD := rfl
@[simp] theorem State.restore_DIN (s : State) (x : Snapshot) : (s.restore x).DIN = s.DIN := rfl
@[simp] theorem State.restore_OUT (s : State) (x : Snapshot) : (s.restore x).OUT = s.OUT := rfl

/-! ## `afterDraws` -/

@[simp] theorem State.afterDraws_S (s : State) (e : Engine) (r : Word) : (s.afterDraws e r).S = e := rfl
@[simp] theorem State.afterDraws_RDV (s : State) (e : Engine) (r : Word) : (s.afterDraws e r).RDV = s.RDV := rfl
@[simp] theorem State.afterDraws_RDC (s : State) (e : Engine) (r : Word) : (s.afterDraws e r).RDC = s.RDC := rfl
@[simp] theorem State.afterDraws_SEEDED (s : State) (e : Engine) (r : Word) : (s.afterDraws e r).SEEDED = s.SEEDED := rfl
@[simp] theorem State.afterDraws_P (s : State) (e : Engine) (r : Word) : (s.afterDraws e r).P = s.P := rfl
@[simp] theorem State.afterDraws_CMD (s : State) (e : Engine) (r : Word) : (s.afterDraws e r).CMD = s.CMD.tail := rfl
@[simp] theorem State.afterDraws_DIN (s : State) (e : Engine) (r : Word) : (s.afterDraws e r).DIN = s.DIN := rfl
@[simp] theorem State.afterDraws_OUT (s : State) (e : Engine) (r : Word) : (s.afterDraws e r).OUT = s.OUT ++ [.rsp ⟨.ok, r⟩] := rfl

/-! ## `afterError` -/

@[simp] theorem State.afterError_S (s : State) (e : Status) : (s.afterError e).S = s.S := rfl
@[simp] theorem State.afterError_RDV (s : State) (e : Status) : (s.afterError e).RDV = s.RDV := rfl
@[simp] theorem State.afterError_RDC (s : State) (e : Status) : (s.afterError e).RDC = s.RDC := rfl
@[simp] theorem State.afterError_SEEDED (s : State) (e : Status) : (s.afterError e).SEEDED = s.SEEDED := rfl
@[simp] theorem State.afterError_P (s : State) (e : Status) : (s.afterError e).P = s.P := rfl
@[simp] theorem State.afterError_CMD (s : State) (e : Status) : (s.afterError e).CMD = s.CMD.tail := rfl
@[simp] theorem State.afterError_DIN (s : State) (e : Status) : (s.afterError e).DIN = s.DIN := rfl
@[simp] theorem State.afterError_OUT (s : State) (e : Status) : (s.afterError e).OUT = s.OUT ++ [.rsp ⟨e, 0#64⟩] := rfl

/-! ## `present` -/

@[simp] theorem State.present_S (s : State) (w : CommandWord) : (s.present w).S = s.S := rfl
@[simp] theorem State.present_RDV (s : State) (w : CommandWord) : (s.present w).RDV = s.RDV := rfl
@[simp] theorem State.present_RDC (s : State) (w : CommandWord) : (s.present w).RDC = s.RDC := rfl
@[simp] theorem State.present_SEEDED (s : State) (w : CommandWord) : (s.present w).SEEDED = s.SEEDED := rfl
@[simp] theorem State.present_P (s : State) (w : CommandWord) : (s.present w).P = s.P := rfl
@[simp] theorem State.present_CMD (s : State) (w : CommandWord) : (s.present w).CMD = s.CMD ++ [w] := rfl
@[simp] theorem State.present_DIN (s : State) (w : CommandWord) : (s.present w).DIN = s.DIN := rfl
@[simp] theorem State.present_OUT (s : State) (w : CommandWord) : (s.present w).OUT = s.OUT := rfl

/-! ## `supply` -/

@[simp] theorem State.supply_S (s : State) (bytes : List Byte) : (s.supply bytes).S = s.S := rfl
@[simp] theorem State.supply_RDV (s : State) (bytes : List Byte) : (s.supply bytes).RDV = s.RDV := rfl
@[simp] theorem State.supply_RDC (s : State) (bytes : List Byte) : (s.supply bytes).RDC = s.RDC := rfl
@[simp] theorem State.supply_SEEDED (s : State) (bytes : List Byte) : (s.supply bytes).SEEDED = s.SEEDED := rfl
@[simp] theorem State.supply_P (s : State) (bytes : List Byte) : (s.supply bytes).P = s.P := rfl
@[simp] theorem State.supply_CMD (s : State) (bytes : List Byte) : (s.supply bytes).CMD = s.CMD := rfl
@[simp] theorem State.supply_DIN (s : State) (bytes : List Byte) : (s.supply bytes).DIN = s.DIN ++ bytes := rfl
@[simp] theorem State.supply_OUT (s : State) (bytes : List Byte) : (s.supply bytes).OUT = s.OUT := rfl

/-! ## `takeOut` -/

@[simp] theorem State.takeOut_S (s : State) : (s.takeOut).S = s.S := rfl
@[simp] theorem State.takeOut_RDV (s : State) : (s.takeOut).RDV = s.RDV := rfl
@[simp] theorem State.takeOut_RDC (s : State) : (s.takeOut).RDC = s.RDC := rfl
@[simp] theorem State.takeOut_SEEDED (s : State) : (s.takeOut).SEEDED = s.SEEDED := rfl
@[simp] theorem State.takeOut_P (s : State) : (s.takeOut).P = s.P := rfl
@[simp] theorem State.takeOut_CMD (s : State) : (s.takeOut).CMD = s.CMD := rfl
@[simp] theorem State.takeOut_DIN (s : State) : (s.takeOut).DIN = s.DIN := rfl
@[simp] theorem State.takeOut_OUT (s : State) : (s.takeOut).OUT = s.OUT.tail := rfl

/-! ## Two updates that meet -/

/-- An answered draw is the one update `afterDraws`. -/
theorem State.setS_respond_ok (s : State) (e : Engine) (r : Word) : (s.setS e).respond .ok r = s.afterDraws e r := rfl

/-- An error answered is the one update `afterError`. -/
theorem State.respond_error (s : State) (e : Status) : s.respond e 0#64 = s.afterError e := rfl

@[simp] theorem State.emit_nil (s : State) : s.emit [] = s := by
  simp [State.emit]

end Sys2Proof.Machine
end

