-- ==== Sys2Proof/Laws/Ops.lean ====
section
/-! SUPPORT. What each shared operation can do, said once. A proof cites these and does not unfold the operation. -/

namespace Sys2Proof.Machine

/-! ## Responses and errors -/

/-- `complete` always goes on, with `ST = OK`. -/
@[simp] theorem complete_eq (r : Word) (s : State) : complete r s = .next (s.respond .ok r) := rfl

/-- Taking an error always goes on: the code, `R = 0`, nothing else changed (R211). -/
@[simp] theorem raise_eq (e : Status) (s : State) : raise e s = .next (s.afterError e) := rfl

/-- `answerDraw` always goes on: `S` and the response (R64). -/
@[simp] theorem answerDraw_eq (d : Nat × Engine) (s : State) :
    answerDraw d s = .next (s.afterDraws d.2 (word d.1)) := rfl

theorem withSeed_seeded {s : State} (h : s.SEEDED = true) (k : Host.Outcome State Fault Refusal) :
    withSeed s k = k := by
  simp [withSeed, h]

theorem withSeed_unseeded {s : State} (h : s.SEEDED = false) (k : Host.Outcome State Fault Refusal) :
    withSeed s k = .next (s.afterError .notSeeded) := by
  simp [withSeed, h]

/-- If a command behind the seed check goes on, it either was turned away or went on by itself (R206). -/
theorem withSeed_next {s t : State} {k : Host.Outcome State Fault Refusal} (h : withSeed s k = .next t) :
    (s.SEEDED = false ∧ t = s.afterError .notSeeded) ∨ (s.SEEDED = true ∧ k = .next t) := by
  cases hs : s.SEEDED with
  | false =>
    rw [withSeed_unseeded hs] at h
    injection h with h
    exact .inl ⟨rfl, h.symm⟩
  | true =>
    rw [withSeed_seeded hs] at h
    exact .inr ⟨rfl, h⟩

/-- A run goes on exactly with the state it ends in. -/
theorem finish_next {run : Except Stop State} {t : State} (h : finish run = .next t) : run = .ok t := by
  match run, h with
  | .ok _, h => injection h with h; rw [h]
  | .error (.fault _), h => simp [finish] at h
  | .error .never, h => simp [finish] at h

/-- A deviate goes on exactly when the sampling ends. -/
theorem answerSample_next {d : Option (Word × Engine)} {s t : State} (h : answerSample d s = .next t) :
    ∃ r e, d = some (r, e) ∧ t = s.afterDraws e r := by
  match d, h with
  | some (r, e), h => injection h with h; exact ⟨r, e, rfl, h.symm⟩
  | none, h => simp [answerSample, finish] at h

/-! ## Rejection loops -/

@[simp] theorem runLoop_zero {α σ : Type} (body : σ → Iter α σ) (s : σ) : runLoop body 0 s = none := rfl

theorem runLoop_done {α σ : Type} {body : σ → Iter α σ} {s s' : σ} {a : α} (h : body s = .done a s') (n : Nat) :
    runLoop body (n + 1) s = some (a, s') := by
  simp [runLoop, h]

theorem runLoop_again {α σ : Type} {body : σ → Iter α σ} {s s' : σ} (h : body s = .again s') (n : Nat) :
    runLoop body (n + 1) s = runLoop body n s' := by
  simp [runLoop, h]

/-- A loop that has ended has ended however much longer it may run. -/
theorem runLoop_mono {α σ : Type} {body : σ → Iter α σ} {n m : Nat} {s : σ} {r : α × σ}
    (h : runLoop body n s = some r) (hnm : n ≤ m) : runLoop body m s = some r := by
  induction n generalizing m s with
  | zero => simp at h
  | succ n ih =>
    obtain ⟨m, rfl⟩ : ∃ k, m = k + 1 := ⟨m - 1, by omega⟩
    cases hb : body s with
    | done a s' => rw [runLoop_done hb] at h ⊢; exact h
    | again s' => rw [runLoop_again hb] at h ⊢; exact ih h (by omega)

/-- What the loop's result says: its last iteration accepted, from some state. -/
theorem runLoop_accepts {α σ : Type} {body : σ → Iter α σ} {n : Nat} {s : σ} {a : α} {s' : σ}
    (h : runLoop body n s = some (a, s')) : ∃ s₁, body s₁ = .done a s' := by
  induction n generalizing s with
  | zero => simp at h
  | succ n ih =>
    cases hb : body s with
    | done b s₂ =>
      rw [runLoop_done hb] at h
      cases h
      exact ⟨s, hb⟩
    | again s₂ => rw [runLoop_again hb] at h; exact ih h

/-! ## The bounded sampler -/

/-- Everything the sampler can do when it answers (R101): one masked draw, or a draw below M reduced modulo n. -/
theorem bounded_some {σ : Type} {n W : Nat} {draw : σ → Nat × σ} {s s' : σ} {v : Nat}
    (h : bounded n W draw s = some (v, s')) :
    (n &&& (n - 1) = 0 ∧ v = (draw s).1 &&& (n - 1) ∧ s' = (draw s).2) ∨
    (n &&& (n - 1) ≠ 0 ∧ ∃ s₁, (draw s₁).1 < threshold n W ∧ v = (draw s₁).1 % n ∧ s' = (draw s₁).2) := by
  unfold bounded at h
  split at h
  · rename_i hn
    cases h
    exact .inl ⟨hn, rfl, rfl⟩
  · rename_i hn
    split at h
    · rename_i v₁ s₂ hl
      cases h
      obtain ⟨s₁, hs₁⟩ := runLoop_accepts hl
      unfold redrawStep at hs₁
      split at hs₁
      · rename_i hlt
        cases hs₁
        exact .inr ⟨hn, s₁, hlt, rfl, rfl⟩
      · cases hs₁
    · cases h

/-- Everything a bounded command can do when it goes on (R103 to R107). -/
theorem boundedCommand_next {n : Int} {W : Nat} {draw : Engine → Nat × Engine} {s t : State}
    (h : boundedCommand n W draw s = .next t) :
    (s.SEEDED = false ∧ t = s.afterError .notSeeded) ∨
    (s.SEEDED = true ∧ n ≤ 0 ∧ t = s.afterError .domainError) ∨
    (s.SEEDED = true ∧ 0 < n ∧ ∃ v e, bounded n.toNat W draw s.S = some (v, e) ∧ t = s.afterDraws e (word v)) := by
  rcases withSeed_next h with ⟨hs, ht⟩ | ⟨hs, h⟩
  · exact .inl ⟨hs, ht⟩
  · right
    split at h
    · rename_i hn
      simp only [raise_eq, Host.Outcome.next.injEq] at h
      exact .inl ⟨hs, hn, h.symm⟩
    · rename_i hn
      right
      split at h
      · rename_i d hd
        simp only [answerDraw_eq, Host.Outcome.next.injEq] at h
        exact ⟨hs, by omega, d.1, d.2, hd, h.symm⟩
      · simp [finish] at h

/-! ## The byte loop -/

@[simp] theorem readBytes_zero {σ : Type} (next : Source σ) (b : ByteBuffer σ) : readBytes next 0 b = ([], b) := rfl

theorem readBytes_succ {σ : Type} (next : Source σ) (n : Nat) (b : ByteBuffer σ) :
    readBytes next (n + 1) b =
      ((b.refill next).first :: (readBytes next n (b.refill next).shift).1,
       (readBytes next n (b.refill next).shift).2) := rfl

/-- The byte loop sends exactly as many bytes as asked for. -/
@[simp] theorem readBytes_length {σ : Type} (next : Source σ) (n : Nat) (b : ByteBuffer σ) :
    (readBytes next n b).1.length = n := by
  induction n generalizing b with
  | zero => rfl
  | succ n ih => simp [readBytes_succ, ih]

/-! ## Bytes and words -/

@[simp] theorem leBytes_length {w : Nat} (n : Nat) (v : BitVec w) : (leBytes n v).length = n := by
  simp [leBytes]

/-- A snapshot has 25 bytes (R181). -/
@[simp] theorem Snapshot.bytes_length (ver : Byte) (x : Snapshot) : (x.bytes ver).length = Config.snapLen := by
  simp [Snapshot.bytes, Config.snapLen]

@[simp] theorem word_toNat (n : Nat) : (word n).toNat = n % 2 ^ 64 := by
  simp [word]

end Sys2Proof.Machine
end

