-- ==== Sys2Proof/Laws/Commands.lean ====
section
/-! SUPPORT. Everything each command can do when it goes on, said once. A proof about commands takes these apart and does
not unfold the meanings. -/

namespace Sys2Proof.Machine

/-! ## The arms of `exec` -/

@[simp] theorem exec_seed (a : Word) (s : State) : exec (.seed a) s = execSeed a s := rfl
@[simp] theorem exec_u64 (a : Word) (s : State) : exec (.u64 a) s = execU64 a s := rfl
@[simp] theorem exec_u32 (a : Word) (s : State) : exec (.u32 a) s = execU32 a s := rfl
@[simp] theorem exec_i63 (a : Word) (s : State) : exec (.i63 a) s = execI63 a s := rfl
@[simp] theorem exec_i31 (a : Word) (s : State) : exec (.i31 a) s = execI31 a s := rfl
@[simp] theorem exec_int (a : Word) (s : State) : exec (.int a) s = execInt a s := rfl
@[simp] theorem exec_u64n (a : Word) (s : State) : exec (.u64n a) s = execU64N a s := rfl
@[simp] theorem exec_i63n (a : Word) (s : State) : exec (.i63n a) s = execI63N a s := rfl
@[simp] theorem exec_u32n (a : Word) (s : State) : exec (.u32n a) s = execU32N a s := rfl
@[simp] theorem exec_i31n (a : Word) (s : State) : exec (.i31n a) s = execI31N a s := rfl
@[simp] theorem exec_intn (a : Word) (s : State) : exec (.intn a) s = execIntN a s := rfl
@[simp] theorem exec_f64 (a : Word) (s : State) : exec (.f64 a) s = execF64 a s := rfl
@[simp] theorem exec_f32 (a : Word) (s : State) : exec (.f32 a) s = execF32 a s := rfl
@[simp] theorem exec_norm (a : Word) (s : State) : exec (.norm a) s = execNorm a s := rfl
@[simp] theorem exec_exp (a : Word) (s : State) : exec (.exp a) s = execExp a s := rfl
@[simp] theorem exec_zrom (a : Word) (s : State) : exec (.zrom a) s = execZrom a s := rfl
@[simp] theorem exec_perm (a : Word) (s : State) : exec (.perm a) s = execPerm a s := rfl
@[simp] theorem exec_shuf (a : Word) (s : State) : exec (.shuf a) s = execShuf a s := rfl
@[simp] theorem exec_read (a : Word) (s : State) : exec (.read a) s = execRead a s := rfl
@[simp] theorem exec_marshal (a : Word) (s : State) : exec (.marshal a) s = execMarshal a s := rfl
@[simp] theorem exec_unmarshal (a : Word) (s : State) : exec (.unmarshal a) s = execUnmarshal a s := rfl

/-! ## The instances -/

@[simp] theorem execWith_seed (par : Parameters) (a : Word) (s : State) : execWith par (.seed a) s = execSeed a s := rfl
@[simp] theorem execWith_u64 (par : Parameters) (a : Word) (s : State) : execWith par (.u64 a) s = u64With par a s := rfl
@[simp] theorem execWith_u32 (par : Parameters) (a : Word) (s : State) : execWith par (.u32 a) s = u32With par a s := rfl
@[simp] theorem execWith_i63 (par : Parameters) (a : Word) (s : State) : execWith par (.i63 a) s = i63With par a s := rfl
@[simp] theorem execWith_i31 (par : Parameters) (a : Word) (s : State) : execWith par (.i31 a) s = i31With par a s := rfl
@[simp] theorem execWith_int (par : Parameters) (a : Word) (s : State) : execWith par (.int a) s = intWith par a s := rfl
@[simp] theorem execWith_u64n (par : Parameters) (a : Word) (s : State) : execWith par (.u64n a) s = u64nWith par a s := rfl
@[simp] theorem execWith_i63n (par : Parameters) (a : Word) (s : State) : execWith par (.i63n a) s = i63nWith par a s := rfl
@[simp] theorem execWith_u32n (par : Parameters) (a : Word) (s : State) : execWith par (.u32n a) s = u32nWith par a s := rfl
@[simp] theorem execWith_i31n (par : Parameters) (a : Word) (s : State) : execWith par (.i31n a) s = i31nWith par a s := rfl
@[simp] theorem execWith_intn (par : Parameters) (a : Word) (s : State) : execWith par (.intn a) s = intnWith par a s := rfl
@[simp] theorem execWith_f64 (par : Parameters) (a : Word) (s : State) : execWith par (.f64 a) s = f64With par a s := rfl
@[simp] theorem execWith_f32 (par : Parameters) (a : Word) (s : State) : execWith par (.f32 a) s = f32With par a s := rfl
@[simp] theorem execWith_norm (par : Parameters) (a : Word) (s : State) : execWith par (.norm a) s = normWith par a s := rfl
@[simp] theorem execWith_exp (par : Parameters) (a : Word) (s : State) : execWith par (.exp a) s = expWith par a s := rfl
@[simp] theorem execWith_zrom (par : Parameters) (a : Word) (s : State) : execWith par (.zrom a) s = execZrom a s := rfl
@[simp] theorem execWith_perm (par : Parameters) (a : Word) (s : State) : execWith par (.perm a) s = permWith par a s := rfl
@[simp] theorem execWith_shuf (par : Parameters) (a : Word) (s : State) : execWith par (.shuf a) s = shufWith par a s := rfl
@[simp] theorem execWith_read (par : Parameters) (a : Word) (s : State) : execWith par (.read a) s = readWith par a s := rfl
@[simp] theorem execWith_marshal (par : Parameters) (a : Word) (s : State) : execWith par (.marshal a) s = marshalWith par a s := rfl
@[simp] theorem execWith_unmarshal (par : Parameters) (a : Word) (s : State) : execWith par (.unmarshal a) s = unmarshalWith par a s := rfl

@[simp] theorem defaultParameters_step : defaultParameters.step = nextWord := rfl
@[simp] theorem defaultParameters_functions : defaultParameters.functions = defaultFunctions := rfl
@[simp] theorem defaultParameters_permMax : defaultParameters.permMax = Config.permMax := rfl
@[simp] theorem defaultParameters_snapVer : defaultParameters.snapVer = Config.snapVer := rfl

/-- `exec` is the instance with the default parameters. A proof about commands goes through this and speaks of any
instance. -/
theorem exec_eq_execWith (i : Instr) (s : State) : exec i s = execWith defaultParameters i s := by
  cases i <;> rfl

/-- `step` is the step of the instance with the default parameters. -/
theorem step_eq_stepWith (s : State) : step s = stepWith defaultParameters s := by
  unfold step stepWith performNext
  split
  · rfl
  · split
    · exact exec_eq_execWith _ _
    · rfl

/-- Everything a step can do when it goes on: wait, answer an illegal opcode, or perform the first command (R67, R222). -/
theorem performNext_next {run : Instr → State → Host.Outcome State Fault Refusal} {s t : State}
    (h : performNext run s = .next t) :
    (s.CMD = [] ∧ t = s) ∨
    ∃ w rest, s.CMD = w :: rest ∧
      ((∃ i, decode w = .ok i ∧ run i s = .next t) ∨
        (∃ e, decode w = .error e ∧ t = s.afterError .illegalCommand)) := by
  unfold performNext at h
  split at h
  · simp only [Host.Outcome.next.injEq] at h
    exact .inl ⟨‹_›, h.symm⟩
  · rename_i w rest hw
    refine .inr ⟨w, rest, hw, ?_⟩
    split at h
    · exact .inl ⟨_, ‹_›, h⟩
    · simp only [raise_eq, Host.Outcome.next.injEq] at h
      exact .inr ⟨_, ‹_›, h.symm⟩

/-! ## Runs -/

@[simp] theorem perform_nil (next : State → Host.Outcome State Fault Refusal) (s : State) :
    perform next [] s = .next s := rfl

@[simp] theorem perform_present (next : State → Host.Outcome State Fault Refusal) (w : CommandWord) (ms : List Move)
    (s : State) : perform next (.present w :: ms) s = perform next ms (s.present w) := rfl

@[simp] theorem perform_supply (next : State → Host.Outcome State Fault Refusal) (bytes : List Byte) (ms : List Move)
    (s : State) : perform next (.supply bytes :: ms) s = perform next ms (s.supply bytes) := rfl

@[simp] theorem perform_take (next : State → Host.Outcome State Fault Refusal) (ms : List Move) (s : State) :
    perform next (.take :: ms) s = perform next ms s.takeOut := rfl

/-- A step of a run that goes on (R236). -/
theorem perform_step {next : State → Host.Outcome State Fault Refusal} {s t : State} (h : next s = .next t)
    (ms : List Move) : perform next (.step :: ms) s = perform next ms t := by
  simp only [perform, h]

/-! ## The commands -/

/-- A value command that draws once (R91 to R94, R116, R117, R85). -/
theorem drawCommand_next {d : Nat × Engine} {s t : State} (h : withSeed s (answerDraw d s) = .next t) :
    (s.SEEDED = false ∧ t = s.afterError .notSeeded) ∨ (s.SEEDED = true ∧ t = s.afterDraws d.2 (word d.1)) := by
  rcases withSeed_next h with ⟨hs, ht⟩ | ⟨hs, h⟩
  · exact .inl ⟨hs, ht⟩
  · simp only [answerDraw_eq, Host.Outcome.next.injEq] at h
    exact .inr ⟨hs, h.symm⟩

/-- A deviate command (R130, R135). -/
theorem sampleCommand_next {d : Option (Word × Engine)} {s t : State} (h : withSeed s (answerSample d s) = .next t) :
    (s.SEEDED = false ∧ t = s.afterError .notSeeded) ∨
    (s.SEEDED = true ∧ ∃ r e, d = some (r, e) ∧ t = s.afterDraws e r) := by
  rcases withSeed_next h with ⟨hs, ht⟩ | ⟨hs, h⟩
  · exact .inl ⟨hs, ht⟩
  · exact .inr ⟨hs, answerSample_next h⟩

/-- `SEED` always goes on (R81). -/
theorem execSeed_eq (a : Word) (s : State) :
    execSeed a s = .next { s with
      S := a ++ a, RDV := 0#64, RDC := 0#3, SEEDED := true,
      CMD := s.CMD.tail, OUT := s.OUT ++ [.rsp ⟨.ok, 0#64⟩] } := rfl

/-- `ZROM` always goes on: with the entry, or with `AddressError` (R43). -/
theorem execZrom_eq (a : Word) (s : State) :
    execZrom a s =
      if zromMapped a.toNat then .next (s.afterDraws s.S (zromEntry a.toNat)) else .next (s.afterError .addressError) := by
  unfold execZrom unsigned64
  split <;> rfl

/-- Everything `PERM` can do when it goes on (R161). -/
theorem permWith_next {par : Parameters} {a : Word} {s t : State} (h : permWith par a s = .next t) :
    (s.SEEDED = false ∧ t = s.afterError .notSeeded) ∨
    (s.SEEDED = true ∧ a.toInt < 0 ∧ t = s.afterError .invalidArgument) ∨
    (s.SEEDED = true ∧ 0 ≤ a.toInt ∧ (par.permMax : Int) < a.toInt ∧ t = s.afterError .capacityError) ∨
    (s.SEEDED = true ∧ 0 ≤ a.toInt ∧ a.toInt ≤ (par.permMax : Int) ∧
      ∃ r, permRun par.permMax par.step a.toInt.toNat s.P s.S = .ok r ∧ t = permState a.toInt.toNat r s) := by
  rcases withSeed_next h with ⟨hs, ht⟩ | ⟨hs, h⟩
  · exact .inl ⟨hs, ht⟩
  · unfold permCommand signed64 at h
    split at h
    · simp only [raise_eq, Host.Outcome.next.injEq] at h
      exact .inr (.inl ⟨hs, ‹_›, h.symm⟩)
    · split at h
      · simp only [raise_eq, Host.Outcome.next.injEq] at h
        exact .inr (.inr (.inl ⟨hs, by omega, ‹_›, h.symm⟩))
      · split at h
        · rename_i r hr
          simp only [finish, Host.Outcome.next.injEq] at h
          exact .inr (.inr (.inr ⟨hs, by omega, by omega, r, hr, h.symm⟩))
        · rename_i e _
          cases e <;> simp [finish] at h

/-- Everything `SHUF` can do when it goes on (R162). -/
theorem shufWith_next {par : Parameters} {a : Word} {s t : State} (h : shufWith par a s = .next t) :
    (s.SEEDED = false ∧ t = s.afterError .notSeeded) ∨
    (s.SEEDED = true ∧ a.toInt < 0 ∧ t = s.afterError .invalidArgument) ∨
    (s.SEEDED = true ∧ 0 ≤ a.toInt ∧ ∃ swaps e, shuffleSwaps par.step (a.toInt.toNat - 1) s.S = some (swaps, e) ∧
      t = ((s.setS e).emit (swaps.map swapItem)).respond .ok (word swaps.length)) := by
  rcases withSeed_next h with ⟨hs, ht⟩ | ⟨hs, h⟩
  · exact .inl ⟨hs, ht⟩
  · unfold shufCommand signed64 at h
    split at h
    · simp only [raise_eq, Host.Outcome.next.injEq] at h
      exact .inr (.inl ⟨hs, ‹_›, h.symm⟩)
    · split at h
      · rename_i swaps e he
        simp only [complete_eq, Host.Outcome.next.injEq] at h
        exact .inr (.inr ⟨hs, by omega, swaps, e, he, h.symm⟩)
      · simp [finish] at h

/-- Everything `READ` can do when it goes on (R171). -/
theorem readWith_next {par : Parameters} {a : Word} {s t : State} (h : readWith par a s = .next t) :
    (s.SEEDED = false ∧ t = s.afterError .notSeeded) ∨
    (s.SEEDED = true ∧ a.toInt < 0 ∧ t = s.afterError .invalidArgument) ∨
    (s.SEEDED = true ∧ 0 ≤ a.toInt ∧
      t = ((s.setBuffer (readBytes par.step a.toInt.toNat s.byteBuffer).2).emit
        ((readBytes par.step a.toInt.toNat s.byteBuffer).1.map .bout)).respond .ok (word a.toInt.toNat)) := by
  rcases withSeed_next h with ⟨hs, ht⟩ | ⟨hs, h⟩
  · exact .inl ⟨hs, ht⟩
  · unfold readCommand signed64 at h
    split at h
    · simp only [raise_eq, Host.Outcome.next.injEq] at h
      exact .inr (.inl ⟨hs, ‹_›, h.symm⟩)
    · simp only [complete_eq, Host.Outcome.next.injEq] at h
      exact .inr (.inr ⟨hs, by omega, h.symm⟩)

/-- Everything `MARSHAL` can do when it goes on (R182). -/
theorem marshalWith_next {par : Parameters} {a : Word} {s t : State} (h : marshalWith par a s = .next t) :
    (s.SEEDED = false ∧ t = s.afterError .notSeeded) ∨
    (s.SEEDED = true ∧ t = (s.emit ((s.snapshot.bytes par.snapVer).map .bout)).respond .ok 25#64) := by
  rcases withSeed_next h with ⟨hs, ht⟩ | ⟨hs, h⟩
  · exact .inl ⟨hs, ht⟩
  · simp only [complete_eq, Host.Outcome.next.injEq] at h
    exact .inr ⟨hs, h.symm⟩

/-- Everything `UNMARSHAL` can do: it always goes on, waiting, restoring or refusing (R184, R241). -/
theorem unmarshalWith_next {par : Parameters} {a : Word} {s t : State} (h : unmarshalWith par a s = .next t) :
    (s.DIN.length < a.toNat ∧ t = s) ∨
    (a.toNat ≤ s.DIN.length ∧ ∃ x, parseSnapshot par.snapVer (s.DIN.take a.toNat) = some x ∧
      t = ((s.dropDin a.toNat).restore x).respond .ok 0#64) ∨
    (a.toNat ≤ s.DIN.length ∧ parseSnapshot par.snapVer (s.DIN.take a.toNat) = none ∧
      t = (s.dropDin a.toNat).afterError .formatError) := by
  unfold unmarshalWith unsigned64 at h
  split at h
  · simp only [Host.Outcome.next.injEq] at h
    exact .inl ⟨‹_›, h.symm⟩
  · split at h
    · rename_i x hx
      simp only [complete_eq, Host.Outcome.next.injEq] at h
      exact .inr (.inl ⟨by omega, x, hx, h.symm⟩)
    · rename_i hx
      simp only [raise_eq, Host.Outcome.next.injEq] at h
      exact .inr (.inr ⟨by omega, hx, h.symm⟩)

/-- Everything a payload that `UNMARSHAL` accepts is (R184). -/
theorem parseSnapshot_some {ver : Byte} {b : List Byte} {x : Snapshot} (h : parseSnapshot ver b = some x) :
    b.length = Config.snapLen ∧ payloadByte b 0 = ver ∧ (payloadByte b 17).toNat ≤ 7 ∧
    paddingZero b (payloadByte b 17).toNat = true ∧
    x = { S := BitVec.ofNat 128 (leValue ((b.drop 1).take 16))
          RDC := (payloadByte b 17).setWidth 3
          RDV := BitVec.ofNat 64 (leValue ((b.drop 18).take 7)) } := by
  unfold parseSnapshot at h
  split at h
  · cases h
  · split at h
    · cases h
    · split at h
      · cases h
      · split at h
        · cases h
        · rename_i h₁ h₂ h₃ h₄
          injection h with h
          exact ⟨by omega, by simpa using h₂, by omega, by simpa using h₄, h.symm⟩

end Sys2Proof.Machine
end

