-- ==== Sys2Proof/Laws/Float.lean ====
section
/-! SUPPORT. Small facts about binary64 patterns, their exact values and their rounding. -/

namespace Sys2Proof.Machine

/-- Every finite pattern has a value. -/
theorem isValue_of_finite {x : Word} (h : f64IsFinite x = true) : IsValue x ((f64Value x : ℝ) / 2 ^ 1074) :=
  ⟨h, div_mul_cancel₀ _ (pow_ne_zero _ two_ne_zero)⟩

/-- A pattern has at most one value. -/
theorem IsValue.unique {x : Word} {u v : ℝ} (hu : IsValue x u) (hv : IsValue x v) : u = v :=
  mul_right_cancel₀ (pow_ne_zero _ two_ne_zero) (hu.2.trans hv.2.symm)

/-- A rounded infinity has no value to compare, so that only the limit and the sign are left to show. -/
theorem roundsTo_of_inf {z : Word} {v : ℝ} (hn : f64IsNaN z = false) (hi : f64IsInf z = true)
    (hv : (2 ^ 54 - 1) * 2 ^ 970 ≤ |v|) (hneg : v < 0 → f64Sign z = true) (hpos : 0 < v → f64Sign z = false) :
    RoundsTo z v := by
  refine ⟨hn, iff_of_true hi hv, hneg, hpos, fun a ha => ?_⟩
  have h₁ := ha.1
  simp only [f64IsInf, f64IsFinite, Bool.and_eq_true, beq_iff_eq, bne_iff_ne] at hi h₁
  exact absurd hi.1 h₁

end Sys2Proof.Machine
end

