-- ==== Sys2Proof/Laws/Memory.lean ====
section
/-! SUPPORT. The laws of the scratch RAM: a read after a write, and the canonical form. -/

namespace Sys2Proof.Machine

/-- Reading the entry written gives the value written; every other entry is as it was. -/
theorem scratchLookup_insert (i j : Nat) (v : Word) (p : List (Nat × Word)) :
    scratchLookup j (scratchInsert i v p) = if j = i then some v else scratchLookup j p := by
  induction p with
  | nil => by_cases h : j = i <;> simp [scratchInsert, scratchLookup, h]
  | cons e rest ih =>
    obtain ⟨k, x⟩ := e
    by_cases h₁ : i < k
    · by_cases h : j = i <;> simp [scratchInsert, scratchLookup, h₁, h]
    · by_cases h₂ : i = k
      · subst h₂
        by_cases h : j = i <;> simp [scratchInsert, scratchLookup, h]
      · by_cases h : j = i
        · subst h
          simp [scratchInsert, scratchLookup, h₁, h₂, ih]
        · by_cases h₃ : j = k <;> simp [scratchInsert, scratchLookup, h₁, h₂, h, h₃, ih, Ne.symm h₂]

/-- Everything `memWrite` can do when it writes: the entry exists, and the RAM is the one with that entry replaced. -/
theorem memWrite_ok {cap : Nat} {p p' : List (Nat × Word)} {i : Nat} {v : Word} (h : memWrite cap p i v = .ok p') :
    i < cap ∧ p' = scratchInsert i v p := by
  unfold memWrite at h
  split at h
  · cases h; exact ⟨‹_›, rfl⟩
  · cases h

/-- Everything `memRead` can do when it reads: the entry exists and was written. -/
theorem memRead_ok {cap : Nat} {p : List (Nat × Word)} {i : Nat} {v : Word} (h : memRead cap p i = .ok v) :
    i < cap ∧ scratchLookup i p = some v := by
  unfold memRead at h
  split at h
  · split at h
    · cases h; exact ⟨‹_›, ‹_›⟩
    · cases h
  · cases h

/-- A read after a write of the same entry. -/
theorem memRead_memWrite_same {cap : Nat} {p p' : List (Nat × Word)} {i : Nat} {v : Word}
    (h : memWrite cap p i v = .ok p') : memRead cap p' i = .ok v := by
  obtain ⟨hi, rfl⟩ := memWrite_ok h
  simp [memRead, hi, scratchLookup_insert]

/-- A read after a write of another entry. -/
theorem memRead_memWrite_other {cap : Nat} {p p' : List (Nat × Word)} {i j : Nat} {v : Word}
    (h : memWrite cap p i v = .ok p') (hij : j ≠ i) : memRead cap p' j = memRead cap p j := by
  obtain ⟨_, rfl⟩ := memWrite_ok h
  simp [memRead, scratchLookup_insert, hij]

/-- The canonical form in words: every entry is below the capacity and below every later one. -/
theorem scratchWf_cons (cap k : Nat) (x : Word) (rest : List (Nat × Word)) :
    scratchWf cap ((k, x) :: rest) = true ↔
      k < cap ∧ (∀ e ∈ rest, k < e.1) ∧ scratchWf cap rest = true := by
  induction rest generalizing k x with
  | nil => simp [scratchWf]
  | cons e rest ih =>
    obtain ⟨m, y⟩ := e
    have h := ih m y
    simp only [scratchWf, Bool.and_eq_true, decide_eq_true_eq]
    constructor
    · rintro ⟨hkm, hw⟩
      obtain ⟨hm, hlt, _⟩ := h.mp hw
      refine ⟨by omega, ?_, hw⟩
      intro e he
      rcases List.mem_cons.mp he with rfl | he
      · exact hkm
      · exact Nat.lt_trans hkm (hlt e he)
    · rintro ⟨_, hlt, hw⟩
      exact ⟨hlt (m, y) (by simp), hw⟩

theorem mem_scratchInsert {i : Nat} {v : Word} {p : List (Nat × Word)} {e : Nat × Word}
    (h : e ∈ scratchInsert i v p) : e = (i, v) ∨ e ∈ p := by
  induction p with
  | nil => simpa [scratchInsert] using h
  | cons a rest ih =>
    obtain ⟨k, x⟩ := a
    unfold scratchInsert at h
    split at h
    · simpa using h
    · split at h
      · rcases List.mem_cons.mp h with h | h
        · exact .inl h
        · exact .inr (by simp [h])
      · rcases List.mem_cons.mp h with h | h
        · exact .inr (by simp [h])
        · rcases ih h with h | h
          · exact .inl h
          · exact .inr (by simp [h])

/-- A write keeps the canonical form. -/
theorem scratchWf_insert {cap i : Nat} {v : Word} {p : List (Nat × Word)} (hi : i < cap)
    (hp : scratchWf cap p = true) : scratchWf cap (scratchInsert i v p) = true := by
  induction p with
  | nil => simpa [scratchInsert, scratchWf] using hi
  | cons a rest ih =>
    obtain ⟨k, x⟩ := a
    obtain ⟨hk, hlt, hr⟩ := (scratchWf_cons cap k x rest).mp hp
    unfold scratchInsert
    split
    · rename_i hik
      rw [scratchWf_cons]
      refine ⟨hi, ?_, hp⟩
      intro e he
      rcases List.mem_cons.mp he with rfl | he
      · exact hik
      · exact Nat.lt_trans hik (hlt e he)
    · split
      · rename_i hik
        subst hik
        exact (scratchWf_cons cap i v rest).mpr ⟨hi, hlt, hr⟩
      · rename_i h₁ h₂
        rw [scratchWf_cons]
        refine ⟨hk, ?_, ih hr⟩
        intro e he
        rcases mem_scratchInsert he with rfl | he
        · simp only; omega
        · exact hlt e he

/-- Every write of the RAM keeps the canonical form. -/
theorem memWrite_keeps_scratchWf {cap : Nat} {p p' : List (Nat × Word)} {i : Nat} {v : Word}
    (h : memWrite cap p i v = .ok p') (hp : scratchWf cap p = true) : scratchWf cap p' = true := by
  obtain ⟨hi, rfl⟩ := memWrite_ok h
  exact scratchWf_insert hi hp

/-- The RAM after a hardware reset has the canonical form. -/
theorem reset_scratchWf : scratchWf Config.permMax State.reset.P = true := rfl

end Sys2Proof.Machine
end

