-- ==== Sys2Proof/Laws/PerInstr.lean ====
section
/-! SUPPORT. Facts about each instruction as syntax, one lemma per constructor. -/

namespace Sys2Proof.Laws

/-- The opcode of an instruction is its row of the opcode map, and its operand goes with it unchanged (R60, R62). -/
def OpcodeRow.Statement (i : Instr) : Prop := ofOpcode i.opcode i.operand = some i

theorem OpcodeRow.seed (a : Word) : OpcodeRow.Statement (.seed a) := rfl
theorem OpcodeRow.u64 (a : Word) : OpcodeRow.Statement (.u64 a) := rfl
theorem OpcodeRow.u32 (a : Word) : OpcodeRow.Statement (.u32 a) := rfl
theorem OpcodeRow.i63 (a : Word) : OpcodeRow.Statement (.i63 a) := rfl
theorem OpcodeRow.i31 (a : Word) : OpcodeRow.Statement (.i31 a) := rfl
theorem OpcodeRow.int (a : Word) : OpcodeRow.Statement (.int a) := rfl
theorem OpcodeRow.u64n (a : Word) : OpcodeRow.Statement (.u64n a) := rfl
theorem OpcodeRow.i63n (a : Word) : OpcodeRow.Statement (.i63n a) := rfl
theorem OpcodeRow.u32n (a : Word) : OpcodeRow.Statement (.u32n a) := rfl
theorem OpcodeRow.i31n (a : Word) : OpcodeRow.Statement (.i31n a) := rfl
theorem OpcodeRow.intn (a : Word) : OpcodeRow.Statement (.intn a) := rfl
theorem OpcodeRow.f64 (a : Word) : OpcodeRow.Statement (.f64 a) := rfl
theorem OpcodeRow.f32 (a : Word) : OpcodeRow.Statement (.f32 a) := rfl
theorem OpcodeRow.norm (a : Word) : OpcodeRow.Statement (.norm a) := rfl
theorem OpcodeRow.exp (a : Word) : OpcodeRow.Statement (.exp a) := rfl
theorem OpcodeRow.zrom (a : Word) : OpcodeRow.Statement (.zrom a) := rfl
theorem OpcodeRow.perm (a : Word) : OpcodeRow.Statement (.perm a) := rfl
theorem OpcodeRow.shuf (a : Word) : OpcodeRow.Statement (.shuf a) := rfl
theorem OpcodeRow.read (a : Word) : OpcodeRow.Statement (.read a) := rfl
theorem OpcodeRow.marshal (a : Word) : OpcodeRow.Statement (.marshal a) := rfl
theorem OpcodeRow.unmarshal (a : Word) : OpcodeRow.Statement (.unmarshal a) := rfl

end Sys2Proof.Laws
end

