-- ==== Sys2Proof/Laws/Permutation.lean ====
section
/-! SUPPORT. What each part of a `PERM` or a `SHUF` can do: the draw of an index, the fill, a swap, the swaps, the
stream-out. -/

namespace Sys2Proof.Machine

/-- Everything the sampler answers is below its bound (R108). -/
theorem bounded_lt {σ : Type} {n W : Nat} {draw : σ → Nat × σ} {s s' : σ} {v : Nat} (hn : 0 < n)
    (h : bounded n W draw s = some (v, s')) : v < n := by
  rcases bounded_some h with ⟨_, rfl, _⟩ | ⟨_, s₁, _, rfl, _⟩
  · have := Nat.and_le_right (n := (draw s).1) (m := n - 1)
    omega
  · exact Nat.mod_lt _ hn

/-- The index drawn for step i is at most i (R163). -/
theorem drawIndex_le {σ : Type} {next : Source σ} {i j : Nat} {s s' : σ} (h : drawIndex next i s = some (j, s')) :
    j ≤ i := by
  have := bounded_lt (by omega) h
  omega

/-- The entries of `P` below n have all been written. -/
def FilledBelow (n : Nat) (p : List (Nat × Word)) : Prop := ∀ i, i < n → ∃ v, scratchLookup i p = some v

/-- The identity fill ends, and writes exactly its entries (R161). -/
theorem fillIdentity_ok {cap : Nat} (n k : Nat) (p : List (Nat × Word)) (h : k + n ≤ cap) :
    ∃ p', fillIdentity cap n k p = .ok p' ∧
      (∀ i, scratchLookup i p' = if k ≤ i ∧ i < k + n then some (word i) else scratchLookup i p) ∧
      (scratchWf cap p = true → scratchWf cap p' = true) := by
  induction n generalizing k p with
  | zero => exact ⟨p, rfl, fun i => by rw [if_neg (by omega)], id⟩
  | succ n ih =>
    have hw : memWrite cap p k (word k) = .ok (scratchInsert k (word k) p) := by
      unfold memWrite
      rw [if_pos (by omega)]
    obtain ⟨p', hp, hl, hf⟩ := ih (k + 1) (scratchInsert k (word k) p) (by omega)
    refine ⟨p', by simp only [fillIdentity, hw, hp], fun i => ?_, fun hwf => hf (scratchWf_insert (by omega) hwf)⟩
    rw [hl, scratchLookup_insert]
    by_cases h₁ : i = k
    · subst h₁
      rw [if_neg (by omega), if_pos rfl, if_pos (by omega)]
    · by_cases h₂ : k + 1 ≤ i ∧ i < k + 1 + n
      · rw [if_pos h₂, if_pos (by omega)]
      · rw [if_neg h₂, if_neg h₁, if_neg (by omega)]

/-- A swap of two written entries ends, and exchanges exactly them (R161). -/
theorem swapEntries_ok {cap : Nat} {p : List (Nat × Word)} {i j : Nat} {v w : Word} (hi : i < cap) (hj : j < cap)
    (hv : scratchLookup i p = some v) (hw : scratchLookup j p = some w) :
    swapEntries cap p i j = .ok (scratchInsert j v (scratchInsert i w p)) := by
  simp [swapEntries, memRead, memWrite, hi, hj, hv, hw]

/-- What the swaps of a `PERM` do when they start with the entries 0 to i written: they never fault; when they end, the
entries above i are as before, those up to i are still written, and the canonical form is kept (R44, R161). -/
theorem permSwaps_cases {σ : Type} {cap : Nat} (next : Source σ) (i : Nat) (p : List (Nat × Word)) (s : σ)
    (hi : i < cap) (hp : FilledBelow (i + 1) p) :
    permSwaps cap next i p s = .error .never ∨
    ∃ p' s', permSwaps cap next i p s = .ok (p', s') ∧ FilledBelow (i + 1) p' ∧
      (∀ k, i < k → scratchLookup k p' = scratchLookup k p) ∧
      (scratchWf cap p = true → scratchWf cap p' = true) := by
  induction i generalizing p s with
  | zero => exact .inr ⟨p, s, rfl, hp, fun _ _ => rfl, id⟩
  | succ i ih =>
    cases hd : drawIndex next (i + 1) s with
    | none => exact .inl (by simp [permSwaps, hd])
    | some d =>
      obtain ⟨j, s'⟩ := d
      have hj := drawIndex_le hd
      obtain ⟨v, hv⟩ := hp (i + 1) (by omega)
      obtain ⟨w, hw⟩ := hp j (by omega)
      have hs := swapEntries_ok (cap := cap) hi (by omega) hv hw
      have hl : ∀ k, scratchLookup k (scratchInsert j v (scratchInsert (i + 1) w p)) =
          if k = j then some v else if k = i + 1 then some w else scratchLookup k p := by
        intro k
        rw [scratchLookup_insert, scratchLookup_insert]
      have hp' : FilledBelow (i + 2) (scratchInsert j v (scratchInsert (i + 1) w p)) := by
        intro k hk
        rw [hl]
        split
        · exact ⟨_, rfl⟩
        · split
          · exact ⟨_, rfl⟩
          · exact hp k hk
      rcases ih (scratchInsert j v (scratchInsert (i + 1) w p)) s' (by omega) (fun k hk => hp' k (by omega)) with
        h | ⟨p₂, s₂, h, hf, hr, hwf⟩
      · exact .inl (by simp only [permSwaps, hd, hs, h])
      · refine .inr ⟨p₂, s₂, by simp only [permSwaps, hd, hs, h], ?_, ?_, ?_⟩
        · intro k hk
          by_cases hki : k < i + 1
          · exact hf k hki
          · rw [hr k (by omega)]
            exact hp' k (by omega)
        · intro k hk
          rw [hr k (by omega), hl, if_neg (by omega), if_neg (by omega)]
        · intro hwp
          exact hwf (scratchWf_insert (by omega) (scratchWf_insert hi hwp))

/-- The stream-out of written entries ends, with their values in order (R161). -/
theorem readOut_ok {cap : Nat} {p : List (Nat × Word)} (n k : Nat) (h : k + n ≤ cap)
    (hp : ∀ i, k ≤ i → i < k + n → ∃ v, scratchLookup i p = some v) :
    ∃ vs, readOut cap p n k = .ok vs ∧ vs.length = n ∧
      ∀ i, i < n → scratchLookup (k + i) p = some (vs.getD i 0#64) := by
  induction n generalizing k with
  | zero => exact ⟨[], rfl, rfl, fun i hi => absurd hi (by omega)⟩
  | succ n ih =>
    obtain ⟨v, hv⟩ := hp k (by omega) (by omega)
    obtain ⟨vs, hvs, hlen, hget⟩ := ih (k + 1) (by omega) (fun i h₁ h₂ => hp i (by omega) (by omega))
    have hr : memRead cap p k = .ok v := by
      unfold memRead
      rw [if_pos (by omega), hv]
    refine ⟨v :: vs, by simp only [readOut, hr, hvs], by simp [hlen], fun i hi => ?_⟩
    cases i with
    | zero => simpa using hv
    | succ i =>
      have := hget i (by omega)
      simpa [Nat.add_assoc, Nat.add_comm 1 i] using this

/-- Everything a run of `PERM` can do for a size within the capacity: its draws never end, or it ends with its n entries
written and streamed out, every other entry as it was, and the canonical form kept. It never faults (R44, R46, R161). -/
theorem permRun_cases {σ : Type} {cap : Nat} (next : Source σ) (n : Nat) (p : List (Nat × Word)) (s : σ) (h : n ≤ cap) :
    permRun cap next n p s = .error .never ∨
    ∃ r, permRun cap next n p s = .ok r ∧ r.values.length = n ∧
      (∀ i, i < n → scratchLookup i r.ram = some (r.values.getD i 0#64)) ∧
      (∀ i, n ≤ i → scratchLookup i r.ram = scratchLookup i p) ∧
      (scratchWf cap p = true → scratchWf cap r.ram = true) := by
  obtain ⟨p₀, h₀, hl₀, hw₀⟩ := fillIdentity_ok (cap := cap) n 0 p (by omega)
  have hf₀ : FilledBelow n p₀ := by
    intro i hi
    rw [hl₀, if_pos (by omega)]
    exact ⟨_, rfl⟩
  have hs : permSwaps cap next (n - 1) p₀ s = .error .never ∨
      ∃ p' s', permSwaps cap next (n - 1) p₀ s = .ok (p', s') ∧ FilledBelow n p' ∧
        (∀ k, n ≤ k → scratchLookup k p' = scratchLookup k p₀) ∧
        (scratchWf cap p₀ = true → scratchWf cap p' = true) := by
    cases n with
    | zero => exact .inr ⟨p₀, s, rfl, hf₀, fun _ _ => rfl, id⟩
    | succ n =>
      rcases permSwaps_cases (cap := cap) next n p₀ s (by omega) hf₀ with hs | ⟨p', s', hs, hf, hr, hw⟩
      · exact .inl hs
      · exact .inr ⟨p', s', hs, hf, fun k hk => hr k (by omega), hw⟩
  rcases hs with hs | ⟨p₁, s₁, hs, hf₁, hr₁, hw₁⟩
  · exact .inl (by simp only [permRun, h₀, hs])
  · obtain ⟨vs, hvs, hlen, hget⟩ := readOut_ok (cap := cap) (p := p₁) n 0 (by omega)
      (fun i _ hi => hf₁ i (by omega))
    refine .inr ⟨⟨vs, p₁, s₁⟩, by simp only [permRun, h₀, hs, hvs], hlen, fun i hi => ?_, fun i hi => ?_, fun hw => hw₁ (hw₀ hw)⟩
    · simpa using hget i hi
    · rw [hr₁ i hi, hl₀, if_neg (by omega)]

/-! ## `SHUF` -/

/-- What the swap requests are when they end: one for each i down to 1, in that order, with its index at most i (R162). -/
theorem shuffleSwaps_some {σ : Type} {next : Source σ} {i : Nat} {s s' : σ} {swaps : List (Nat × Nat)}
    (h : shuffleSwaps next i s = some (swaps, s')) :
    swaps.length = i ∧ ∀ k, k < i → (swaps.getD k (0, 0)).1 = i - k ∧ (swaps.getD k (0, 0)).2 ≤ i - k := by
  induction i generalizing s swaps with
  | zero =>
    simp only [shuffleSwaps, Option.some.injEq, Prod.mk.injEq] at h
    obtain ⟨rfl, _⟩ := h
    exact ⟨rfl, fun k hk => absurd hk (by omega)⟩
  | succ i ih =>
    unfold shuffleSwaps at h
    split at h
    · cases h
    · rename_i j s₁ hd
      split at h
      · cases h
      · rename_i rest s₂ hr
        cases h
        obtain ⟨hlen, hget⟩ := ih hr
        refine ⟨by simp [hlen], fun k hk => ?_⟩
        cases k with
        | zero => exact ⟨rfl, drawIndex_le hd⟩
        | succ k =>
          have := hget k (by omega)
          simp only [List.getD_cons_succ]
          omega

end Sys2Proof.Machine
end

