-- ==== Sys2Proof/Machine/Assembler.lean ====
section
/-! DEFINITION. The text form of commands and the pseudo-commands (spec/30_encoding.md R68, R69). A line is a list of
characters. R68 says what a line holds, and not every detail of how it is written: where it is silent, log entry 12
(DESIGN CHOICE) says what the model takes. -/

namespace Sys2Proof.Machine

/-! ## Pseudo-commands -/

/-- The widths of `uniform_below` (R69). -/
inductive BoundWidth where
  /-- `64u` -/
  | u64
  /-- `63` -/
  | s63
  /-- `32u` -/
  | u32
  /-- `31` -/
  | s31
  /-- `int` -/
  | platform
deriving DecidableEq, Repr

/-- A pseudo-command (R69). -/
inductive PseudoCommand where
  /-- `NEW s` -/
  | new (seed : Word)
  /-- `NEXT` -/
  | next
  /-- `UNIFORM_BELOW n, width` -/
  | uniformBelow (n : Word) (width : BoundWidth)
  /-- `READ1` -/
  | read1
deriving DecidableEq, Repr

/-- The expansion of a pseudo-command is preceded by a hardware reset: `NEW` only (R69). -/
def PseudoCommand.needsReset : PseudoCommand → Bool
  | .new _ => true
  | .next => false
  | .uniformBelow _ _ => false
  | .read1 => false

/-- The command a pseudo-command expands to (R69). -/
def PseudoCommand.command : PseudoCommand → Instr
  | .new seed => .seed seed
  | .next => .u64 0#64
  | .uniformBelow n .u64 => .u64n n
  | .uniformBelow n .s63 => .i63n n
  | .uniformBelow n .u32 => .u32n n
  | .uniformBelow n .s31 => .i31n n
  | .uniformBelow n .platform => .intn n
  | .read1 => .read 1#64

/-! ## Numbers -/

/-- The value of a decimal or hexadecimal digit; that a hexadecimal digit may be of either case is log entry 12. -/
def digitValue (c : Char) : Option Nat :=
  if '0' ≤ c ∧ c ≤ '9' then some (c.toNat - '0'.toNat)
  else if 'a' ≤ c ∧ c ≤ 'f' then some (c.toNat - 'a'.toNat + 10)
  else if 'A' ≤ c ∧ c ≤ 'F' then some (c.toNat - 'A'.toNat + 10)
  else none

/-- The number a list of digits stands for in a base, on top of `acc`. -/
def digitsValue (base : Nat) : List Char → Nat → Option Nat
  | [], acc => some acc
  | c :: cs, acc =>
    match digitValue c with
    | some d => if d < base then digitsValue base cs (acc * base + d) else none
    | none => none

/-- An unsigned number, decimal or `0x` hexadecimal (R68). -/
def parseUnsigned : List Char → Option Nat
  | [] => none
  | '0' :: 'x' :: c :: cs => digitsValue 16 (c :: cs) 0
  | c :: cs => digitsValue 10 (c :: cs) 0

/-- An operand: an unsigned number, or a negative decimal `-k`, the pattern `2^bits - k` (R68). That the number must be
below `2^64` and k from 1 to `2^bits` is log entry 12. -/
def parseOperand (bits : Nat) : List Char → Option Word
  | '-' :: cs =>
    match digitsValue 10 cs 0 with
    | some k => if cs ≠ [] ∧ 1 ≤ k ∧ k ≤ 2 ^ bits then some (word (2 ^ bits - k)) else none
    | none => none
  | cs =>
    match parseUnsigned cs with
    | some n => if n < 2 ^ 64 then some (word n) else none
    | none => none

/-- A hexadecimal byte string, first byte first (R68); an odd number of digits is no byte string (log entry 12). -/
def parseBytes : List Char → Option (List Byte)
  | [] => some []
  | [_] => none
  | a :: b :: rest =>
    match digitsValue 16 [a, b] 0, parseBytes rest with
    | some n, some bs => some (BitVec.ofNat 8 n :: bs)
    | _, _ => none

/-! ## Lines -/

/-- The words of a line, up to the comment that a `;` starts; `current` holds the characters of the current one, last
first. R68 does not say what separates a mnemonic from its operand: here it is one or more space characters, which may
also stand before the mnemonic and at the end, and no other character (log entry 12, DESIGN CHOICE). -/
def lineWords : List Char → List Char → List (List Char)
  | [], current => if current = [] then [] else [current.reverse]
  | c :: cs, current =>
    if c = ';' then (if current = [] then [] else [current.reverse])
    else if c = ' ' then (if current = [] then lineWords cs [] else current.reverse :: lineWords cs [])
    else lineWords cs (c :: current)

/-- The commands that read no operand, by mnemonic; a host sends `A = 0` (R63, R68). -/
def commandsWithoutOperand : List (List Char × Instr) :=
  [(['U', '6', '4'], .u64 0#64), (['U', '3', '2'], .u32 0#64), (['I', '6', '3'], .i63 0#64),
   (['I', '3', '1'], .i31 0#64), (['I', 'N', 'T'], .int 0#64), (['F', '6', '4'], .f64 0#64),
   (['F', '3', '2'], .f32 0#64), (['N', 'O', 'R', 'M'], .norm 0#64), (['E', 'X', 'P'], .exp 0#64),
   (['M', 'A', 'R', 'S', 'H', 'A', 'L'], .marshal 0#64)]

/-- The command of a mnemonic that reads a number, from its operand (R63, R68). -/
def commandWithOperand (m : List Char) (a : Word) : Option Instr :=
  if m = ['S', 'E', 'E', 'D'] then some (.seed a)
  else if m = ['U', '6', '4', 'N'] then some (.u64n a)
  else if m = ['I', '6', '3', 'N'] then some (.i63n a)
  else if m = ['U', '3', '2', 'N'] then some (.u32n a)
  else if m = ['I', '3', '1', 'N'] then some (.i31n a)
  else if m = ['I', 'N', 'T', 'N'] then some (.intn a)
  else if m = ['Z', 'R', 'O', 'M'] then some (.zrom a)
  else if m = ['P', 'E', 'R', 'M'] then some (.perm a)
  else if m = ['S', 'H', 'U', 'F'] then some (.shuf a)
  else if m = ['R', 'E', 'A', 'D'] then some (.read a)
  else none

/-- The mnemonic `UNMARSHAL`. -/
def unmarshalMnemonic : List Char := ['U', 'N', 'M', 'A', 'R', 'S', 'H', 'A', 'L']

/-- The `UNMARSHAL` of a payload: its `A` is the number of bytes written (R68). -/
def unmarshalOf (payload : List Byte) : Transaction :=
  { instr := .unmarshal (word payload.length), payload := payload }

/-- One line of text as a transaction (R68). R68 does not say how an empty payload is written: here `UNMARSHAL` with
nothing after it has one, and `A = 0` (log entry 12, DESIGN CHOICE). A line without a command, or with more than R68 gives
it, is none. -/
def assemble (line : List Char) : Option Transaction :=
  match lineWords line [] with
  | [m] =>
    if m = unmarshalMnemonic then some (unmarshalOf [])
    else
      match commandsWithoutOperand.find? (fun x => x.1 == m) with
      | some x => some { instr := x.2, payload := [] }
      | none => none
  | [m, x] =>
    if m = unmarshalMnemonic then
      match parseBytes x with
      | some bytes => some (unmarshalOf bytes)
      | none => none
    else
      match parseOperand (if m = ['I', '3', '1', 'N'] then 32 else 64) x with
      | some a =>
        match commandWithOperand m a with
        | some i => some { instr := i, payload := [] }
        | none => none
      | none => none
  | _ => none

end Sys2Proof.Machine
end

