-- ==== Sys2Proof/Tests/Slice0.lean ====
section
/-! SUPPORT. Tests of the model. Expected values are those of spec/95_test_vectors.md, by section, unless a comment says
how they were worked out by hand. The last part shows, for each statement with hypotheses, a concrete case that meets
them. -/

namespace Sys2Proof.Tests

open Sys2Proof Sys2Proof.Machine

-- One kernel evaluation at a time: many at once ask for more threads than the checks allow.
set_option Elab.async false

/-! ## Helpers -/

/-- A seeded instance with nothing waiting, as `SEED a` leaves a fresh one. -/
def seededWith (a : Word) : State := { State.reset with S := a ++ a, SEEDED := true }

/-- The command, or the run, has a next state. -/
def goesOn (o : Host.Outcome State Fault Refusal) : Bool :=
  match o with
  | .next _ => true
  | .fault _ => false
  | .refused _ => false

/-- The next state; `s` if there is none. -/
def nextOf (o : Host.Outcome State Fault Refusal) (s : State) : State :=
  match o with
  | .next t => t
  | .fault _ => s
  | .refused _ => s

theorem eq_nextOf {o : Host.Outcome State Fault Refusal} {s : State} (h : goesOn o = true) : o = .next (nextOf o s) := by
  unfold nextOf
  split <;> simp_all [goesOn]

/-- The state after one command. -/
def after (i : Instr) (s : State) : State := nextOf (exec i s) s

theorem exec_after {i : Instr} {s : State} (h : goesOn (exec i s) = true) : exec i s = .next (after i s) := eq_nextOf h

/-- The state after one step. -/
def afterStep (s : State) : State := nextOf (step s) s

theorem step_after {s : State} (h : goesOn (step s) = true) : step s = .next (afterStep s) := eq_nextOf h

/-- The last response sent, as its status and its result. -/
def answer (i : Instr) (s : State) : Option Response := (responsesOf (after i s).OUT).getLast?

/-- A source of the words of a list, in order. -/
def wordsOf : Source (List Word) := fun l => (l.headD 0#64, l.tail)

/-- The 25 bytes of section 9 that are the snapshot after `SEED 1; READ 3`. -/
def snapshotB : List Byte :=
  [0x01#8, 0x94#8, 0x77#8, 0x34#8, 0x97#8, 0xe3#8, 0x5a#8, 0x8b#8, 0x57#8, 0x16#8, 0xd3#8, 0x28#8, 0x0c#8, 0x97#8,
   0xc0#8, 0x38#8, 0xbf#8, 0x05#8, 0x49#8, 0x39#8, 0x36#8, 0xe9#8, 0x34#8, 0x00#8, 0x00#8]

/-- A fresh instance with the bytes on `DIN`. -/
def withDin (b : List Byte) : State := State.reset.supply b

/-- An engine state whose next word is zero, found by undoing one advance of state 0 by hand (R82). -/
def zeroWordState : State := { seededWith 0 with S := 0xdba7208509dc6fbcf24b0ffac22ab37d#128 }

/-- An instance that holds five leftover bytes, those of section 8.1 after `READ 3`. -/
def heldFive : State :=
  { seededWith 0 with S := 0xBF38C0970C28D316578B5AE397347794#128, RDV := 0x00000034E9363949#64, RDC := 5#3 }

/-! ## Well-formedness -/

theorem test_wellFormed_every_instruction (i : Instr) : i.WellFormed := trivial

theorem test_wellFormed_short_payload_refused :
    Transaction.wellFormed { instr := .unmarshal 25#64, payload := snapshotB.take 24 } = false := by decide

theorem test_wellFormed_long_payload_refused :
    Transaction.wellFormed { instr := .unmarshal 25#64, payload := snapshotB ++ [0x00#8] } = false := by decide

theorem test_wellFormed_stray_payload_refused :
    Transaction.wellFormed { instr := .u64 0#64, payload := [0x00#8] } = false := by decide

theorem test_wellFormed_transactions_accepted :
    Transaction.wellFormed { instr := .unmarshal 25#64, payload := snapshotB } = true ∧
    Transaction.wellFormed { instr := .unmarshal 0#64, payload := [] } = true ∧
    Transaction.wellFormed { instr := .read 25#64, payload := [] } = true := by decide

theorem test_canonical_operands :
    Instr.canonical (.u64 1#64) = false ∧ Instr.canonical (.u64 0#64) = true ∧
    Instr.canonical (.u32n 0x100000000#64) = false ∧ Instr.canonical (.u32n 0xFFFFFFFF#64) = true := by decide

/-! ## Decoding: one word for each command, written out from R60 and R62 -/

theorem test_decode_seed : decode 0x01FFFFFFFFFFFFFFFF#72 = .ok (.seed 0xFFFFFFFFFFFFFFFF#64) := by decide
theorem test_decode_u64 : decode 0x020000000000000000#72 = .ok (.u64 0#64) := by decide
theorem test_decode_u32 : decode 0x030000000000000000#72 = .ok (.u32 0#64) := by decide
theorem test_decode_i63 : decode 0x040000000000000000#72 = .ok (.i63 0#64) := by decide
theorem test_decode_i31 : decode 0x050000000000000000#72 = .ok (.i31 0#64) := by decide
theorem test_decode_int : decode 0x060000000000000001#72 = .ok (.int 1#64) := by decide
theorem test_decode_u64n : decode 0x108000000000000001#72 = .ok (.u64n 0x8000000000000001#64) := by decide
theorem test_decode_i63n : decode 0x11FFFFFFFFFFFFFFFB#72 = .ok (.i63n (-5#64)) := by decide
theorem test_decode_u32n : decode 0x120000000100000000#72 = .ok (.u32n 0x100000000#64) := by decide
theorem test_decode_i31n : decode 0x1300000000000003E8#72 = .ok (.i31n 1000#64) := by decide
theorem test_decode_intn : decode 0x140000000000000003#72 = .ok (.intn 3#64) := by decide
theorem test_decode_f64 : decode 0x200000000000000000#72 = .ok (.f64 0#64) := by decide
theorem test_decode_f32 : decode 0x210000000000000000#72 = .ok (.f32 0#64) := by decide
theorem test_decode_norm : decode 0x280000000000000000#72 = .ok (.norm 0#64) := by decide
theorem test_decode_exp : decode 0x290000000000000000#72 = .ok (.exp 0#64) := by decide
theorem test_decode_zrom : decode 0x2A0000000000000700#72 = .ok (.zrom 0x700#64) := by decide
theorem test_decode_perm : decode 0x300000000000010001#72 = .ok (.perm 65537#64) := by decide
theorem test_decode_shuf : decode 0x31FFFFFFFFFFFFFFFF#72 = .ok (.shuf (-1#64)) := by decide
theorem test_decode_read : decode 0x380000000000000003#72 = .ok (.read 3#64) := by decide
theorem test_decode_marshal : decode 0x400000000000000000#72 = .ok (.marshal 0#64) := by decide
theorem test_decode_unmarshal : decode 0x410000000000000019#72 = .ok (.unmarshal 25#64) := by decide

/-- The illegal words of section 10.1. -/
theorem test_decode_illegal_opcodes :
    ∀ op ∈ [0x00#8, 0x07#8, 0x15#8, 0x27#8, 0x2B#8, 0x39#8, 0x42#8, 0xEE#8, 0xFF#8],
      decode (op ++ 5#64) = .error (.illegalCommand op) := by decide

/-- There are 21 legal opcodes of 256 (R62, R65). -/
theorem test_decode_counts_21_opcodes :
    ((List.range 256).filter fun n => (ofOpcode (BitVec.ofNat 8 n) 0#64).isSome).length = 21 := by decide +kernel

theorem test_encode_words :
    encode (.u64n 10#64) = 0x10000000000000000A#72 ∧ encode (.unmarshal 25#64) = 0x410000000000000019#72 ∧
    encode (.zrom 0x300#64) = 0x2A0000000000000300#72 := by decide

theorem test_decodeTableWord :
    decodeTableWord 72 0x38FFFFFFFFFFFFFFFF = some (.read 0xFFFFFFFFFFFFFFFF#64) ∧
    decodeTableWord 72 0x420000000000000000 = none := by decide

/-- The response of status 7 and result 1 is the word `7` in bits 67:64 and `1` in bits 63:0 (R61). -/
theorem test_response_bits : Response.bits ⟨.addressError, 1#64⟩ = 0x70000000000000001#68 := by decide

/-! ## Step -/

theorem test_step_answers_illegal_word :
    (afterStep { State.reset with CMD := [0xEE0000000000000005#72] }).OUT = [.rsp ⟨.illegalCommand, 0#64⟩] := by
  decide +kernel

theorem test_step_runs_placed_word :
    (afterStep (State.reset.withFetchWord 72 0x01000000000000002A)).S = 0x000000000000002A000000000000002A#128 ∧
    (afterStep (State.reset.withFetchWord 72 0x410000000000000019)).OUT = [.rsp ⟨.formatError, 0#64⟩] := by
  decide +kernel

/-! ## Another instance of the block (R6, R188) -/

/-- Two functions that R14 allows. -/
def plainFunctions : Transcendentals :=
  { exp64 := fun _ => f64One, ln64 := fun u => if u = 0#64 then f64NegInf else 0#64 }

/-- An instance with a counter for an engine, room for four entries, and a version tag of its own. -/
def counterInstance : Parameters :=
  { step := fun e => (e.setWidth 64, e + 1#128)
    functions := plainFunctions
    permMax := 4
    snapVer := 0x02#8 }

/-- What the instance sends for one command, after what was sent before. -/
def sentBy (par : Parameters) (i : Instr) (s : State) : List OutItem := (nextOf (execWith par i s) s).OUT

theorem test_instance_uses_its_parameters :
    sentBy counterInstance (.u64 0#64) heldFive = [.rsp ⟨.ok, 0x578B5AE397347794#64⟩] ∧
    sentBy counterInstance (.perm 5#64) heldFive = [.rsp ⟨.capacityError, 0#64⟩] ∧
    (sentBy counterInstance (.marshal 0#64) heldFive).head? = some (.bout 0x02#8) ∧
    sentBy counterInstance (.unmarshal 25#64) (withDin snapshotB) = [.rsp ⟨.formatError, 0#64⟩] := by decide +kernel

/-! ## Core engine (section 2) -/

theorem test_seed_state :
    (after (.seed 0x0123456789ABCDEF#64) heldFive).S = 0x0123456789ABCDEF0123456789ABCDEF#128 ∧
    (after (.seed 1#64) heldFive).RDC = 0#3 ∧ (after (.seed 1#64) heldFive).RDV = 0#64 := by decide +kernel

theorem test_seed_marks_seeded : (after (.seed 0#64) State.reset).SEEDED = true := by decide +kernel

theorem test_u64_first_words :
    answer (.u64 0#64) (seededWith 1#64) = some ⟨.ok, 0x34E936394905D167#64⟩ ∧
    answer (.u64 7#64) (seededWith 0xFFFFFFFFFFFFFFFF#64) = some ⟨.ok, 0x54172474D993DAAD#64⟩ := by decide +kernel

theorem test_u64_state : (after (.u64 0#64) (seededWith 1#64)).S = 0xBF38C0970C28D316578B5AE397347794#128 := by
  decide +kernel

/-- Section 2.3: rotation count 0. -/
theorem test_output_rotation_zero :
    output 0x03EC56BC8FC560A86583B868A1D77908#128 = 0x666FEED42E1219A0#64 := by decide +kernel

/-! ## Integer derivation (section 3) -/

theorem test_u32_upper_half :
    answer (.u32 0#64) (seededWith 0#64) = some ⟨.ok, 0xCBF98931#64⟩ := by decide +kernel
theorem test_i63_drops_the_top_bit :
    answer (.i63 0#64) (seededWith 0#64) = some ⟨.ok, 0x4BF98931523D4EEF#64⟩ := by decide +kernel
theorem test_i31_drops_the_top_bit :
    answer (.i31 0#64) (seededWith 0#64) = some ⟨.ok, 0x4BF98931#64⟩ := by decide +kernel
theorem test_int_is_63_bits :
    answer (.int 0#64) (seededWith 0#64) = some ⟨.ok, 0x4BF98931523D4EEF#64⟩ := by decide +kernel

/-! ## Bounded sampler (section 4) -/

theorem test_threshold_values :
    threshold 0x8000000000000001 64 = 0x8000000000000001 ∧ threshold 10 63 = 0x7FFFFFFFFFFFFFF8 ∧
    threshold 6 32 = 0xFFFFFFFC ∧ threshold 1000 31 = 0x7FFFFD78 := by decide +kernel

theorem test_u64n_rejects_once :
    answer (.u64n 0x8000000000000001#64) (seededWith 0#64) = some ⟨.ok, 0x4D98B91B8D356870#64⟩ := by decide +kernel
theorem test_u64n_zero_is_domain_error :
    answer (.u64n 0#64) (seededWith 1#64) = some ⟨.domainError, 0#64⟩ := by decide +kernel
theorem test_i63n_rejects_twice :
    answer (.i63n 0x4000000000000001#64) (seededWith 0#64) = some ⟨.ok, 0x01070196E695F8F1#64⟩ := by decide +kernel
theorem test_i63n_negative_is_domain_error :
    answer (.i63n (-5#64)) (seededWith 0#64) = some ⟨.domainError, 0#64⟩ := by decide +kernel
theorem test_u32n_rejects_once :
    answer (.u32n 0x80000001#64) (seededWith 0#64) = some ⟨.ok, 0x4D98B91B#64⟩ := by decide +kernel
theorem test_u32n_ignores_the_upper_half :
    answer (.u32n 0x100000000#64) (seededWith 1#64) = some ⟨.domainError, 0#64⟩ := by decide +kernel
theorem test_i31n_rejects_twice :
    answer (.i31n 0x40000001#64) (seededWith 0#64) = some ⟨.ok, 0x01070196#64⟩ := by decide +kernel
theorem test_i31n_negative_is_domain_error :
    answer (.i31n 0x80000000#64) (seededWith 0#64) = some ⟨.domainError, 0#64⟩ := by decide +kernel
theorem test_intn_ten : answer (.intn 10#64) (seededWith 1#64) = some ⟨.ok, 1#64⟩ := by decide +kernel
theorem test_intn_power_of_two_draws_once :
    (after (.intn 0x4000000000000000#64) (seededWith 1#64)).S = 0xBF38C0970C28D316578B5AE397347794#128 := by
  decide +kernel

/-! ## Float constructor (section 5) -/

theorem test_f64_seed42 : answer (.f64 0#64) (seededWith 42#64) = some ⟨.ok, 0x3FE5E98EE9AFC3CA#64⟩ := by decide +kernel
theorem test_f64_corners :
    f64OfBits53 0 = 0 ∧ f64OfBits53 1 = 0x3CA0000000000000 ∧ f64OfBits53 (2 ^ 53 - 1) = 0x3FEFFFFFFFFFFFFF ∧
    f64OfBits53 (0x7FFFFFFFFFFFFFFF / 2 ^ 11) = 0x3FDFFFFFFFFFFFFE := by decide +kernel
theorem test_f32_seed42 : answer (.f32 0#64) (seededWith 42#64) = some ⟨.ok, 0x3F2F4C77#64⟩ := by decide +kernel
theorem test_f32_corners :
    f32OfBits24 0 = 0 ∧ f32OfBits24 1 = 0x33800000 ∧ f32OfBits24 (2 ^ 24 - 1) = 0x3F7FFFFF ∧
    f32OfBits24 (0x0010000000000000 / 2 ^ 40) = 0x39800000 := by decide +kernel

/-! ## Floating point (section 6.5) -/

theorem test_ln64_values :
    ln64 0x3FE0000000000000#64 = 0xBFE62E42FEFA39EF#64 ∧ ln64 0x3CA0000000000000#64 = 0xC0425E4F7B2737FA#64 ∧
    ln64 0x3FEFFFFFFFFFFFFF#64 = 0xBCA0000000000000#64 ∧ ln64 0#64 = 0xFFF0000000000000#64 := by decide +kernel

theorem test_exp64_values :
    exp64 0x8000000000000000#64 = 0x3FF0000000000000#64 ∧ exp64 0xBFE0000000000000#64 = 0x3FE368B2FC6F960A#64 ∧
    exp64 0xC01EC9D9297EBB83#64 = 0x3F3DC31C329F0B48#64 ∧ exp64 0xFFF0000000000000#64 = 0#64 := by decide +kernel

theorem test_cvt_ties_to_even :
    cvtU64F64 0x20000000000001 = 0x4340000000000000#64 ∧ cvtU64F64 0x20000000000003 = 0x4340000000000002#64 ∧
    cvtU64F64 0xFFFFFFFFFFFFFF = 0x4370000000000000#64 := by decide +kernel

/-! ## Ziggurat sampler (sections 6.1 to 6.4) -/

theorem test_norm_wedge_accepted :
    answer (.norm 0#64) (seededWith 73#64) = some ⟨.ok, 0x3FA32D85224F36CC#64⟩ := by decide +kernel
theorem test_norm_tail : answer (.norm 0#64) (seededWith 7017#64) = some ⟨.ok, 0x400E29A15A1ACF0D#64⟩ := by
  decide +kernel
theorem test_exp_wedge_rejected_then_fast :
    answer (.exp 0#64) (seededWith 297#64) = some ⟨.ok, 0x3FFD828BEBC8A705#64⟩ := by decide +kernel
theorem test_exp_tail : answer (.exp 0#64) (seededWith 7130#64) = some ⟨.ok, 0x40238B066F63AE54#64⟩ := by
  decide +kernel

/-- Section 6.4: a negative zero; a rejected pair of the tail, the words consumed exactly; minus infinity. -/
theorem test_norm_word_streams :
    normSample defaultFunctions wordsOf [0x8000000000000005#64] = some (0x8000000000000000#64, []) ∧
    normSample defaultFunctions wordsOf [0x7FFFFFFFFFFFFF00#64, 0x0000000000000800#64, 0xFFFFFFFFFFFFF800#64,
      0x8000000000000000#64, 0x8000000000000000#64] = some (0x400EC02F6557A0A0#64, []) ∧
    normSample defaultFunctions wordsOf [0xFFFFFFFFFFFFFF00#64, 0#64, 0#64] = some (0xFFF0000000000000#64, []) := by
  decide +kernel

/-- Section 6.4: a wedge that rejects its largest candidate; a tail with `U = 0`. -/
theorem test_exp_word_streams :
    expSample defaultFunctions wordsOf [0xFFFFFFFFFFFFFFFF#64, 0#64, 0x00000000000010FF#64] =
      some (0x3CDEC9D9297EBB83#64, []) ∧
    expSample defaultFunctions wordsOf [0xFFFFFFFFFFFFFF00#64, 0x00000000000007FF#64] =
      some (0x7FF0000000000000#64, []) := by
  decide +kernel

/-! ## Table ROM (section 10.2) -/

theorem test_zrom_entries :
    zromEntry 0x0FF = 0x0078D2D25998E24F#64 ∧ zromEntry 0x1FF = 0x3C9D3BB48209AD33#64 ∧
    zromEntry 0x2FF = 0x3F54A605B6B9F70D#64 ∧ zromEntry 0x400 = 0x00E290A13924BE3E#64 ∧
    zromEntry 0x501 = 0x3C30589D8B5D4119#64 ∧ zromEntry 0x6FF = 0x3F3DC31C329F0B4B#64 := by decide +kernel

theorem test_zrom_answers :
    answer (.zrom 0x300#64) State.reset = some ⟨.ok, 0x400D3BB48209AD33#64⟩ ∧
    answer (.zrom 0x301#64) State.reset = some ⟨.addressError, 0#64⟩ ∧
    answer (.zrom 0x100000300#64) State.reset = some ⟨.addressError, 0#64⟩ := by decide +kernel

/-! ## Permutation engine (section 7) -/

theorem test_perm_ten :
    voutOf (after (.perm 10#64) (seededWith 1#64)).OUT =
      [5#64, 4#64, 6#64, 3#64, 9#64, 2#64, 8#64, 0#64, 7#64, 1#64] := by decide +kernel
theorem test_perm_errors :
    answer (.perm 65537#64) (seededWith 0#64) = some ⟨.capacityError, 0#64⟩ ∧
    answer (.perm 0x8000000000000000#64) (seededWith 0#64) = some ⟨.invalidArgument, 0#64⟩ := by decide +kernel
theorem test_shuf_five :
    swpOf (after (.shuf 5#64) (seededWith 1#64)).OUT = [(4#64, 1#64), (3#64, 1#64), (2#64, 0#64), (1#64, 1#64)] := by
  decide +kernel
theorem test_shuf_one_emits_nothing :
    (after (.shuf 1#64) (seededWith 1#64)).OUT = [.rsp ⟨.ok, 0#64⟩] := by decide +kernel

/-! ## Byte stream (section 8) -/

theorem test_read_three :
    boutOf (after (.read 3#64) (seededWith 1#64)).OUT = [0x67#8, 0xd1#8, 0x05#8] ∧
    (after (.read 3#64) (seededWith 1#64)).RDC = 5#3 ∧
    (after (.read 3#64) (seededWith 1#64)).RDV = 0x00000034E9363949#64 := by decide +kernel
theorem test_read_across_words :
    boutOf (after (.read 6#64) heldFive).OUT = [0x49#8, 0x39#8, 0x36#8, 0xe9#8, 0x34#8, 0x31#8] := by decide +kernel

/-! ## State codec (section 9) -/

theorem test_marshal_bytes : boutOf (after (.marshal 0#64) heldFive).OUT = snapshotB := by decide +kernel
theorem test_unmarshal_restores :
    after (.unmarshal 25#64) (withDin snapshotB) = { heldFive with OUT := [.rsp ⟨.ok, 0#64⟩] } := by decide +kernel
/-- The refused payloads of section 9, and its accepted variant. -/
theorem test_unmarshal_checks :
    (∀ b ∈ [snapshotB.take 24, snapshotB ++ [0x00#8], [], snapshotB.set 0 0x00#8, snapshotB.set 0 0x02#8,
        snapshotB.set 17 0x08#8, snapshotB.set 17 0xFF#8, snapshotB.set 24 0x01#8, snapshotB.set 23 0x01#8,
        snapshotB.set 17 0x04#8], parseSnapshot 0x01#8 b = none) ∧
    parseSnapshot 0x01#8 ((snapshotB.set 17 0x06#8).set 23 0x55#8) = some {
      S := 0xBF38C0970C28D316578B5AE397347794#128, RDC := 6#3, RDV := 0x00005534E9363949#64 } := by decide +kernel

/-! ## Assembler (R68, R69) -/

theorem test_assemble_examples :
    assemble ['P', 'E', 'R', 'M', ' ', '-', '1'] = some { instr := .perm 0xFFFFFFFFFFFFFFFF#64, payload := [] } ∧
    assemble ['I', '3', '1', 'N', ' ', '-', '5'] = some { instr := .i31n 0xFFFFFFFB#64, payload := [] } ∧
    assemble ['Z', 'R', 'O', 'M', ' ', '0', 'x', '3', '0', '0'] = some { instr := .zrom 0x300#64, payload := [] } ∧
    assemble ['U', '6', '4', ' ', ';', ' ', 'x'] = some { instr := .u64 0#64, payload := [] } ∧
    assemble ['U', '6', '4', ' ', '1'] = none := by decide +kernel

/-- `UNMARSHAL 010203` of program P4 (section 11): three bytes, so `A` is 3. -/
theorem test_assemble_payload :
    assemble ['U', 'N', 'M', 'A', 'R', 'S', 'H', 'A', 'L', ' ', '0', '1', '0', '2', '0', '3'] =
      some { instr := .unmarshal 3#64, payload := [0x01#8, 0x02#8, 0x03#8] } := by decide +kernel

/-! ## Witnesses: a case that meets the hypotheses of each statement -/

theorem witness_EncodeAfterDecode : decode 0x380000000000000003#72 = .ok (.read 3#64) := by decide

theorem witness_StepRunsDecodedCommand :
    (State.reset.present 0x01000000000000002A#72).CMD = [0x01000000000000002A#72] ∧
    decode 0x01000000000000002A#72 = .ok (.seed 42#64) := by decide

theorem witness_IllegalOpcodeIsAnswered :
    ∃ (s : State) (op : BitVec 8) (a : Word) (rest : List CommandWord), s.CMD = (op ++ a) :: rest ∧
      op.toNat ∉ [0x01, 0x02, 0x03, 0x04, 0x05, 0x06, 0x10, 0x11, 0x12, 0x13, 0x14, 0x20, 0x21, 0x28, 0x29, 0x2A, 0x30,
        0x31, 0x38, 0x40, 0x41] :=
  ⟨State.reset.present 0xEE0000000000000005#72, 0xEE#8, 5#64, [], by decide, by decide⟩

theorem witness_IdleStepChangesNothing : State.reset.CMD = [] := rfl

theorem witness_ResetIsUnseededAndEmpty :
    HardwareReset { State.reset with S := 5#128, RDV := 7#64, RDC := 6#3, P := [(9, 1#64)] } :=
  ⟨_, _, _, _, rfl⟩

/-- A command that leaves a leftover: `READ 3` from the channel. -/
theorem witness_LeftoverFormIsKept :
    ∃ s t : State, LeftoverCanonical s ∧ step s = .next t ∧ t.SEEDED = true ∧ t.RDC = 5#3 := by
  have h : goesOn (step ((seededWith 1#64).present 0x380000000000000003#72)) = true := by decide +kernel
  exact ⟨_, _, by unfold LeftoverCanonical; decide, step_after h, by decide +kernel, by decide +kernel⟩

/-- A command that writes the scratch RAM: `PERM 3` from the channel. -/
theorem witness_ScratchFormIsKept :
    ∃ s t : State, ScratchCanonical s ∧ step s = .next t ∧ t.P ≠ [] := by
  have h : goesOn (step ((seededWith 1#64).present 0x300000000000000003#72)) = true := by decide +kernel
  exact ⟨_, _, by unfold ScratchCanonical; decide, step_after h, by decide +kernel⟩

theorem witness_OnlySeedAndUnmarshalWriteSeeded :
    (∃ t, exec (.u64 0#64) (seededWith 1#64) = .next t ∧ (seededWith 1#64).SEEDED = true) ∧
    (∃ t, exec (.seed 1#64) State.reset = .next t ∧ State.reset.SEEDED = false ∧ t.SEEDED = true) ∧
    (∃ t, exec (.unmarshal 25#64) (withDin snapshotB) = .next t ∧ (withDin snapshotB).SEEDED = false ∧
      t.SEEDED = true) := by
  have h₁ : goesOn (exec (.u64 0#64) (seededWith 1#64)) = true := by decide +kernel
  have h₂ : goesOn (exec (.seed 1#64) State.reset) = true := by decide +kernel
  have h₃ : goesOn (exec (.unmarshal 25#64) (withDin snapshotB)) = true := by decide +kernel
  exact ⟨⟨_, exec_after h₁, rfl⟩, ⟨_, exec_after h₂, rfl, by decide +kernel⟩, ⟨_, exec_after h₃, rfl, by decide +kernel⟩⟩

/-- The two values of `SEEDED`; the first state draws a zero word. It serves `RawWordIsTheRotatedXor`,
`DerivedIntegersAreSlices`, `UniformDoubleIsExact`, `UniformSingleIsExact`, `DeviatesAreAlwaysAnswered` and
`MarshalEmitsTheSnapshot`. -/
theorem witness_seeded_and_unseeded :
    zeroWordState.SEEDED = true ∧ (rawWord zeroWordState.S 0).toNat = 0 ∧ (seededWith 1#64).SEEDED = true ∧
    (rawWord (seededWith 1#64).S 0).toNat / 2 ^ 40 ≠ 0 ∧ State.reset.SEEDED = false := by decide +kernel

/-- Two states that differ in every register; behind the `SEED` an `UNMARSHAL` waits for its payload, which comes later. -/
theorem witness_ReseedForgetsThePast :
    ∃ s t : State, s.CMD = encode (.seed 7#64) :: [encode (.unmarshal 25#64)] ∧
      t.CMD = encode (.seed 7#64) :: [encode (.unmarshal 25#64)] ∧ s.DIN = t.DIN ∧ s.OUT = t.OUT ∧ s ≠ t ∧
      ∃ u, perform step [.step, .step, .supply snapshotB, .step, .take] s = .next u ∧ u.CMD = [] ∧
        u.S = 0xBF38C0970C28D316578B5AE397347794#128 :=
  ⟨{ heldFive with CMD := [encode (.seed 7#64), encode (.unmarshal 25#64)] },
    { seededWith 1#64 with CMD := [encode (.seed 7#64), encode (.unmarshal 25#64)] },
    rfl, rfl, rfl, rfl, by decide +kernel, _, eq_nextOf (s := heldFive) (by decide +kernel), by decide +kernel, by decide +kernel⟩

/-- Bounds at both ends of their ranges, and one that rejects a draw (section 4.2). -/
theorem witness_UnsignedBoundsTakeTheFirstAcceptedDraw :
    FirstBelow (2 ^ 64 - 2 ^ 64 % (1#64).toNat) (fun i => (rawWord (seededWith 0#64).S i).toNat) 0 ∧
    FirstBelow (2 ^ 64 - 2 ^ 64 % (0xFFFFFFFFFFFFFFFF#64).toNat) (fun i => (rawWord (seededWith 0#64).S i).toNat) 0 ∧
    FirstBelow (2 ^ 64 - 2 ^ 64 % (0x8000000000000001#64).toNat) (fun i => (rawWord (seededWith 0#64).S i).toNat) 1 ∧
    FirstBelow (2 ^ 32 - 2 ^ 32 % ((1#64).toNat % 2 ^ 32))
      (fun i => (rawWord (seededWith 0#64).S i).toNat / 2 ^ 32) 0 ∧
    FirstBelow (2 ^ 32 - 2 ^ 32 % ((0xFFFFFFFFFFFFFFFF#64).toNat % 2 ^ 32))
      (fun i => (rawWord (seededWith 0#64).S i).toNat / 2 ^ 32) 0 ∧
    FirstBelow (2 ^ 32 - 2 ^ 32 % ((0x80000001#64).toNat % 2 ^ 32))
      (fun i => (rawWord (seededWith 0#64).S i).toNat / 2 ^ 32) 1 := by
  unfold FirstBelow
  decide +kernel

theorem witness_SignedBoundsTakeTheFirstAcceptedDraw :
    FirstBelow (2 ^ 63 - 2 ^ 63 % (1#64).toNat)
      (fun i => (rawWord (seededWith 0#64).S i).toNat % 2 ^ 63) 0 ∧
    FirstBelow (2 ^ 63 - 2 ^ 63 % (0x7FFFFFFFFFFFFFFF#64).toNat)
      (fun i => (rawWord (seededWith 0#64).S i).toNat % 2 ^ 63) 0 ∧
    FirstBelow (2 ^ 63 - 2 ^ 63 % (0x4000000000000001#64).toNat)
      (fun i => (rawWord (seededWith 0#64).S i).toNat % 2 ^ 63) 2 ∧
    FirstBelow (2 ^ 31 - 2 ^ 31 % ((1#64).toNat % 2 ^ 32))
      (fun i => (rawWord (seededWith 0#64).S i).toNat / 2 ^ 32 % 2 ^ 31) 0 ∧
    FirstBelow (2 ^ 31 - 2 ^ 31 % ((0xFFFFFFFF7FFFFFFF#64).toNat % 2 ^ 32))
      (fun i => (rawWord (seededWith 0#64).S i).toNat / 2 ^ 32 % 2 ^ 31) 0 ∧
    FirstBelow (2 ^ 31 - 2 ^ 31 % ((0x40000001#64).toNat % 2 ^ 32))
      (fun i => (rawWord (seededWith 0#64).S i).toNat / 2 ^ 32 % 2 ^ 31) 2 := by
  unfold FirstBelow
  decide +kernel

/-- Bounds on either side of each clause's limit. -/
theorem witness_BoundsAtOrBelowZeroAreDomainErrors :
    (0#64).toNat = 0 ∧ 2 ^ 63 ≤ (0x8000000000000000#64).toNat ∧ 2 ^ 63 ≤ (0xFFFFFFFFFFFFFFFF#64).toNat ∧
    (0xFFFFFFFF00000000#64).toNat % 2 ^ 32 = 0 ∧ 2 ^ 31 ≤ (0x80000000#64).toNat % 2 ^ 32 ∧
    2 ^ 31 ≤ (0xFFFFFFFF#64).toNat % 2 ^ 32 := by decide

theorem witness_BoundedCommandsAnswerBelowTheBound :
    0 < (1#64).toNat ∧ 0 < (0xFFFFFFFFFFFFFFFF#64).toNat ∧ (0x7FFFFFFFFFFFFFFF#64).toNat < 2 ^ 63 ∧
    0 < (0xFFFFFFFF#64).toNat % 2 ^ 32 ∧ 0 < (0x7FFFFFFF#64).toNat % 2 ^ 32 ∧
    (0x7FFFFFFF#64).toNat % 2 ^ 32 < 2 ^ 31 := by decide

theorem witness_ThresholdLeavesNoModuloBias : 1 ≤ 3 ∧ 3 ≤ 2 ^ 2 - 1 ∧ ∀ j, 3 ≠ 2 ^ j := by
  refine ⟨by decide, by decide, fun j h => ?_⟩
  rcases j with _ | _ | j
  · simp at h
  · simp at h
  · rw [pow_add] at h; omega

/-- Loops of the two kinds that never end. -/
theorem witness_LoopBoundIsNoCap :
    runLoop (fun e : Engine => (Iter.again e : Iter Nat Engine)) Config.loopBound 0#128 = none ∧
    runLoop (fun p : NormPhase Engine => (Iter.again p : Iter Word (NormPhase Engine))) Config.loopBound
      (.tail true 0#128) = none := by
  have h : ∀ (α σ : Type) (s : σ) (n : Nat), runLoop (fun s : σ => (Iter.again s : Iter α σ)) n s = none := by
    intro α σ s n
    induction n with
    | zero => rfl
    | succ n ih => exact ih
  exact ⟨h _ _ _ _, h _ _ _ _⟩

/-- The overflow limit itself, a tie, and a finite value to compare with. -/
theorem witness_RoundingIsToNearestEven :
    (0 < 1 ∧ (2 ^ 54 - 1) * 2 ^ 2044 * 1 ≤ (2 ^ 54 - 1) * 2 ^ 2044) ∧
    (0 < 2 ∧ roundUnits 3 2 < 2047 * 2 ^ 52 ∧ f64IsFinite 1#64 = true ∧
      |((f64Units (f64Pack false (roundUnits 3 2)) * 2 : Nat) : Int) - 3| = |((f64Units 1#64 * 2 : Nat) : Int) - 3| ∧
      f64Units 1#64 ≠ f64Units (f64Pack false (roundUnits 3 2))) := by decide +kernel

/-- Patterns with their values: the two zeros, 1, the smallest and the largest finite value. They serve
`RoundingIsToNearestEven`, `ExpBoundsEncloseTheExponential` and `LnBoundsEncloseTheLogarithm`. -/
theorem witness_IsValue :
    IsValue 0#64 0 ∧ IsValue 0x8000000000000000#64 0 ∧ IsValue f64One 1 ∧ (1 : ℝ) ≠ 0 ∧
    IsValue 1#64 ((1 : ℝ) / 2 ^ 1074) ∧ ∃ v, IsValue 0xFFEFFFFFFFFFFFFF#64 v := by
  have h₁ : f64Value 0#64 = 0 := by decide +kernel
  have h₂ : f64Value 0x8000000000000000#64 = 0 := by decide +kernel
  have h₃ : f64Value f64One = 2 ^ 1074 := by decide +kernel
  have h₄ : f64Value 1#64 = 1 := by decide +kernel
  refine ⟨⟨by decide, ?_⟩, ⟨by decide, ?_⟩, ⟨by decide, ?_⟩, one_ne_zero, ⟨by decide, ?_⟩,
    _, isValue_of_finite (by decide)⟩
  · rw [h₁]; norm_num
  · rw [h₂]; norm_num
  · rw [h₃, Int.cast_pow, one_mul, Int.cast_ofNat]
  · rw [h₄]; field_simp; norm_num

theorem witness_InfinitiesAndZerosFollowIeee :
    f64IsFinite 0xFFEFFFFFFFFFFFFF#64 = true ∧ f64IsNaN 0x7FF0000000000001#64 = true := by decide

theorem witness_ExpBoundsEncloseTheExponential :
    (8 ≤ 8 ∧ 0 < 746 * 2 ^ 1074 ∧ 746 * 2 ^ 1074 - 1 < 746 * 2 ^ 1074) ∧
    (∃ v, IsValue f64One v ∧ f64Units f64One ≠ 0 ∧ f64Units f64One < 746 * 2 ^ 1074 ∧ ExpDecided f64One) ∧
    (∃ v, IsValue f64NegHalf v ∧ ExpDecided f64NegHalf) := by
  exact ⟨by decide +kernel, ⟨1, witness_IsValue.2.2.1, by decide +kernel, by decide +kernel, 160, by decide, by decide +kernel⟩,
    _, isValue_of_finite (by decide), 160, by decide, by decide +kernel⟩

theorem witness_LnBoundsEncloseTheLogarithm :
    (8 ≤ 8 ∧ 0 < 1) ∧ ∃ v, IsValue 1#64 v ∧ 0 < v ∧ v ≠ 1 ∧ LnDecided 1#64 := by
  refine ⟨by decide, (1 : ℝ) / 2 ^ 1074, witness_IsValue.2.2.2.2.1, by positivity, ?_, 160, by decide, by decide +kernel⟩
  exact (div_lt_one (by positivity)).mpr (one_lt_pow₀ one_lt_two (by decide)) |>.ne

theorem witness_NormFastPath :
    (rawWord (seededWith 1#64).S 0).toNat % 2 ^ 63 / 2 ^ 8 <
      tableKN ((rawWord (seededWith 1#64).S 0).toNat % 2 ^ 8) := by decide +kernel

/-- The quantities of the wedge of a word `u` and a uniform `v`, as `NormWedgeTest` names them. -/
def normWedgeHolds (u v : Word) : Bool :=
  flt (fadd (tableFN (u.toNat % 2 ^ 8))
      (fmul (uniformOf v) (fsub (tableFN (u.toNat % 2 ^ 8 - 1)) (tableFN (u.toNat % 2 ^ 8)))))
    (exp64 (fmul 0xBFE0000000000000#64
      (fmul (fmul (cvtU64F64 (u.toNat % 2 ^ 63 / 2 ^ 8)) (tableWN (u.toNat % 2 ^ 8)))
        (fmul (cvtU64F64 (u.toNat % 2 ^ 63 / 2 ^ 8)) (tableWN (u.toNat % 2 ^ 8))))))

/-- An accepted wedge and a rejected one (section 6.3). -/
theorem witness_NormWedgeTest :
    1 ≤ (rawWord (seededWith 73#64).S 0).toNat % 2 ^ 8 ∧
    tableKN ((rawWord (seededWith 73#64).S 0).toNat % 2 ^ 8) ≤ (rawWord (seededWith 73#64).S 0).toNat % 2 ^ 63 / 2 ^ 8 ∧
    1 ≤ (rawWord (seededWith 10#64).S 0).toNat % 2 ^ 8 ∧
    tableKN ((rawWord (seededWith 10#64).S 0).toNat % 2 ^ 8) ≤ (rawWord (seededWith 10#64).S 0).toNat % 2 ^ 63 / 2 ^ 8 ∧
    normWedgeHolds (rawWord (seededWith 73#64).S 0) (rawWord (seededWith 73#64).S 1) = true ∧
    normWedgeHolds (rawWord (seededWith 10#64).S 0) (rawWord (seededWith 10#64).S 1) = false := by decide +kernel

/-- The pair of a tail is accepted, as `NormTail` writes it. -/
def normPairHolds (u v : Word) : Bool :=
  fle (fmul (fdiv (fneg (ln64 (uniformOf u))) constRN) (fdiv (fneg (ln64 (uniformOf u))) constRN))
    (fadd (fneg (ln64 (uniformOf v))) (fneg (ln64 (uniformOf v))))

/-- A tail whose first pair is accepted, and one that rejects a pair first. The second seed was found by a search. -/
theorem witness_NormTail :
    (rawWord (seededWith 7017#64).S 0).toNat % 2 ^ 8 = 0 ∧ tableKN 0 ≤ (rawWord (seededWith 7017#64).S 0).toNat % 2 ^ 63 / 2 ^ 8 ∧
    (rawWord (seededWith 36453#64).S 0).toNat % 2 ^ 8 = 0 ∧ tableKN 0 ≤ (rawWord (seededWith 36453#64).S 0).toNat % 2 ^ 63 / 2 ^ 8 ∧
    normPairHolds (rawWord (seededWith 7017#64).S 1) (rawWord (seededWith 7017#64).S 2) = true ∧
    normPairHolds (rawWord (seededWith 36453#64).S 1) (rawWord (seededWith 36453#64).S 2) = false ∧
    normPairHolds (rawWord (seededWith 36453#64).S 3) (rawWord (seededWith 36453#64).S 4) = true := by decide +kernel

theorem witness_ExpFastPath :
    (rawWord (seededWith 1#64).S 0).toNat / 2 ^ 8 < tableKE ((rawWord (seededWith 1#64).S 0).toNat % 2 ^ 8) := by
  decide +kernel

/-- The quantities of the wedge of a word `u` and a uniform `v`, as `ExpWedgeTest` names them. -/
def expWedgeHolds (u v : Word) : Bool :=
  flt (fadd (tableFE (u.toNat % 2 ^ 8))
      (fmul (uniformOf v) (fsub (tableFE (u.toNat % 2 ^ 8 - 1)) (tableFE (u.toNat % 2 ^ 8)))))
    (exp64 (fneg (fmul (cvtU64F64 (u.toNat / 2 ^ 8)) (tableWE (u.toNat % 2 ^ 8)))))

theorem witness_ExpWedgeTest :
    1 ≤ (rawWord (seededWith 73#64).S 0).toNat % 2 ^ 8 ∧
    tableKE ((rawWord (seededWith 73#64).S 0).toNat % 2 ^ 8) ≤ (rawWord (seededWith 73#64).S 0).toNat / 2 ^ 8 ∧
    1 ≤ (rawWord (seededWith 297#64).S 0).toNat % 2 ^ 8 ∧
    tableKE ((rawWord (seededWith 297#64).S 0).toNat % 2 ^ 8) ≤ (rawWord (seededWith 297#64).S 0).toNat / 2 ^ 8 ∧
    expWedgeHolds (rawWord (seededWith 73#64).S 0) (rawWord (seededWith 73#64).S 1) = true ∧
    expWedgeHolds (rawWord (seededWith 297#64).S 0) (rawWord (seededWith 297#64).S 1) = false := by decide +kernel

theorem witness_ExpTail :
    (rawWord (seededWith 7130#64).S 0).toNat % 2 ^ 8 = 0 ∧
    tableKE 0 ≤ (rawWord (seededWith 7130#64).S 0).toNat / 2 ^ 8 := by decide +kernel

theorem witness_DeviatesAreNeverNaN :
    Lawful plainFunctions ∧
    (normSample plainFunctions wordsOf [0x8000000000000005#64]).isSome = true ∧
    (expSample plainFunctions wordsOf [0x00000000000000FF#64]).isSome = true ∧
    counterInstance.functions = plainFunctions ∧
    (∃ e r, execWith counterInstance (.norm 0#64) heldFive = .next (heldFive.afterDraws e r)) ∧
    (∃ e r, execWith counterInstance (.exp 0#64) heldFive = .next (heldFive.afterDraws e r)) := by
  have h₁ : goesOn (execWith counterInstance (.norm 0#64) heldFive) = true := by decide +kernel
  have h₂ : goesOn (execWith counterInstance (.exp 0#64) heldFive) = true := by decide +kernel
  refine ⟨⟨by decide +kernel, ?_, ?_, by decide +kernel, by decide +kernel⟩, by decide +kernel, by decide +kernel, rfl,
    ⟨heldFive.S + 1#128, 0x3FF2516AD356EDF3#64, (eq_nextOf (s := heldFive) h₁).trans (congrArg _ (by decide +kernel))⟩,
    ⟨heldFive.S + 1#128, 0x3FE52D8879328EDD#64, (eq_nextOf (s := heldFive) h₂).trans (congrArg _ (by decide +kernel))⟩⟩
  · intro u _ hu _
    have h : u ≠ 0#64 := by
      rintro rfl
      revert hu
      decide
    simp only [plainFunctions, h, if_false]
    decide
  · intro x _ _
    simp only [plainFunctions]
    decide

/-- The indices at the limits of the map's clauses. -/
theorem witness_ZromReadsTheMap :
    (0x0FF#64).toNat = 0x000 + 255 ∧ (0x100#64).toNat = 0x100 + 0 ∧ (0x2FF#64).toNat = 0x200 + 255 ∧
    (0x400#64).toNat = 0x400 + 0 ∧ (0x5FF#64).toNat = 0x500 + 255 ∧ (0x6FF#64).toNat = 0x600 + 255 ∧
    0x301 ≤ (0x301#64).toNat ∧ (0x3FF#64).toNat ≤ 0x3FF ∧ 0x701 ≤ (0x701#64).toNat ∧ (0x7FF#64).toNat ≤ 0x7FF ∧
    0x800 ≤ (0x800#64).toNat := by decide

/-- The sizes 0, 1 and 6: none of the draws is rejected. -/
theorem witness_ShuffleWithoutRejection :
    (∀ k, k < (0#64).toNat - 1 → (rawWord (seededWith 7#64).S k).toNat < 2 ^ 64 - 2 ^ 64 % ((0#64).toNat - k)) ∧
    (∀ k, k < (1#64).toNat - 1 → (rawWord (seededWith 7#64).S k).toNat < 2 ^ 64 - 2 ^ 64 % ((1#64).toNat - k)) ∧
    (∀ k, k < (6#64).toNat - 1 → (rawWord (seededWith 7#64).S k).toNat < 2 ^ 64 - 2 ^ 64 % ((6#64).toNat - k)) := by
  decide +kernel

/-- Sizes at the limits, for `ShufflePairsAreInRange`, `PermEmitsAPermutation`, `PermAgreesWithShuffle` and
`SizesOutOfRangeAreErrors`. -/
theorem witness_sizes :
    (0#64).toNat < 2 ^ 63 ∧ (0x7FFFFFFFFFFFFFFF#64).toNat < 2 ^ 63 ∧ (0#64).toNat ≤ 65536 ∧
    (65536#64).toNat ≤ 65536 ∧ 65536 < (65537#64).toNat ∧ 65536 < (0x7FFFFFFFFFFFFFFF#64).toNat ∧
    2 ^ 63 ≤ (0x8000000000000000#64).toNat ∧ counterInstance.permMax < (5#64).toNat := by decide

/-- Lengths on either side of the five held bytes. -/
theorem witness_ReadDeliversTheByteStream :
    heldFive.SEEDED = true ∧ (0#64).toNat ≤ heldFive.RDC.toNat ∧ (5#64).toNat ≤ heldFive.RDC.toNat ∧
    heldFive.RDC.toNat < (6#64).toNat ∧ (6#64).toNat < 2 ^ 63 := by decide +kernel

theorem witness_ReadGranularityDoesNotMatter :
    heldFive.SEEDED = true ∧ (3#64).toNat + (9#64).toNat < 2 ^ 63 ∧
    (0#64).toNat + (0x7FFFFFFFFFFFFFFF#64).toNat < 2 ^ 63 := by decide +kernel

/-- A payload that passes the checks, with `RDC` 5, and payloads that fail one each. -/
theorem witness_UnmarshalChecksAndRestores :
    ((withDin (snapshotB ++ [0xAA#8])).DIN = snapshotB ++ [0xAA#8] ∧ snapshotB.length = (25#64).toNat ∧
      snapshotB.length = 25 ∧ snapshotB.getD 0 0#8 = 0x01#8 ∧ (snapshotB.getD 17 0#8).toNat ≤ 7 ∧
      (∀ k, (snapshotB.getD 17 0#8).toNat ≤ k → k < 7 → snapshotB.getD (18 + k) 0#8 = 0#8)) ∧
    ((snapshotB.take 24).length = (24#64).toNat ∧ (snapshotB.set 0 0x02#8).getD 0 0#8 ≠ 0x01#8 ∧
      ¬ ((snapshotB.set 17 0x08#8).getD 17 0#8).toNat ≤ 7 ∧
      (snapshotB.set 23 0x01#8).getD (18 + 5) 0#8 ≠ 0#8) := by
  refine ⟨⟨rfl, by decide, by decide, by decide, by decide, ?_⟩, by decide⟩
  intro k h₁ h₂
  have h : (snapshotB.getD 17 0#8).toNat = 5 := by decide
  interval_cases k <;> first | omega | decide

theorem witness_UnmarshalWaitsForItsPayload :
    (withDin (snapshotB.take 24)).DIN.length < (25#64).toNat ∧ State.reset.DIN.length < (1#64).toNat := by decide

theorem witness_SnapshotResumesExactly :
    ∃ (t : State), heldFive.SEEDED = true ∧ LeftoverCanonical heldFive ∧ exec (.marshal 0#64) heldFive = .next t ∧
      t.OUT = heldFive.OUT ++ snapshotB.map OutItem.bout ++ [.rsp ⟨.ok, 25#64⟩] ∧
      (withDin snapshotB).DIN = snapshotB ++ [] := by
  have h : goesOn (exec (.marshal 0#64) heldFive) = true := by decide +kernel
  exact ⟨_, by decide +kernel, by unfold LeftoverCanonical; decide +kernel, exec_after h, by decide +kernel, rfl⟩

theorem witness_RemarshalIsExact :
    ∃ t : State, (withDin snapshotB).DIN = snapshotB ++ [] ∧ snapshotB.length = 25 ∧
      exec (.unmarshal 25#64) (withDin snapshotB) = .next t ∧
      t.OUT = (withDin snapshotB).OUT ++ [.rsp ⟨.ok, 0#64⟩] := by
  have h : goesOn (exec (.unmarshal 25#64) (withDin snapshotB)) = true := by decide +kernel
  exact ⟨_, rfl, by decide, exec_after h, by decide +kernel⟩

theorem witness_UnseededCommandsAreTurnedAway :
    (State.reset.SEEDED = false ∧ (∀ a, Instr.perm (-1#64) ≠ .seed a) ∧
      (∀ a, Instr.perm (-1#64) ≠ .unmarshal a) ∧ (∀ a, Instr.perm (-1#64) ≠ .zrom a)) ∧
    (∃ t, (seededWith 1#64).SEEDED = true ∧ exec (.perm (-1#64)) (seededWith 1#64) = .next t) := by
  have h : goesOn (exec (.perm (-1#64)) (seededWith 1#64)) = true := by decide +kernel
  refine ⟨⟨rfl, ?_, ?_, ?_⟩, ⟨_, rfl, exec_after h⟩⟩ <;> intro a h <;> cases h

/-- A command that is answered, and one that waits. -/
theorem witness_OneResponsePerCommand :
    (∃ t, exec (.shuf 5#64) (seededWith 1#64) = .next t) ∧ (∃ t, exec (.unmarshal 25#64) State.reset = .next t) := by
  have h₁ : goesOn (exec (.shuf 5#64) (seededWith 1#64)) = true := by decide +kernel
  have h₂ : goesOn (exec (.unmarshal 25#64) State.reset) = true := by decide +kernel
  exact ⟨⟨_, exec_after h₁⟩, ⟨_, exec_after h₂⟩⟩

/-- An error before anything is drawn, and a refused payload. -/
theorem witness_ErrorsChangeNothing :
    (∃ t, exec (.u64n 0#64) (seededWith 1#64) = .next t ∧ (seededWith 1#64).OUT.length < t.OUT.length ∧
      t.OUT = [] ++ [.rsp ⟨.domainError, 0#64⟩] ∧ Status.domainError ≠ .ok) ∧
    (∃ t, exec (.unmarshal 24#64) (withDin snapshotB) = .next t ∧ (withDin snapshotB).OUT.length < t.OUT.length ∧
      t.OUT = [] ++ [.rsp ⟨.formatError, 0#64⟩] ∧ Status.formatError ≠ .ok) := by
  have h₁ : goesOn (exec (.u64n 0#64) (seededWith 1#64)) = true := by decide +kernel
  have h₂ : goesOn (exec (.unmarshal 24#64) (withDin snapshotB)) = true := by decide +kernel
  exact ⟨⟨_, exec_after h₁, by decide +kernel, by decide +kernel, by decide⟩,
    ⟨_, exec_after h₂, by decide +kernel, by decide +kernel, by decide⟩⟩

/-- A command for each clause: `U64` writes none of the three, `MARSHAL` writes nothing. -/
theorem witness_RegistersHaveTheirWriters :
    (∃ t, exec (.u64 0#64) heldFive = .next t) ∧ (∃ t, exec (.marshal 0#64) heldFive = .next t) ∧
    (∀ a, Instr.u64 0#64 ≠ .seed a) ∧ (∀ a, Instr.u64 0#64 ≠ .read a) ∧ (∀ a, Instr.u64 0#64 ≠ .unmarshal a) ∧
    (∀ a, Instr.u64 0#64 ≠ .perm a) := by
  have h₁ : goesOn (exec (.u64 0#64) heldFive) = true := by decide +kernel
  have h₂ : goesOn (exec (.marshal 0#64) heldFive) = true := by decide +kernel
  refine ⟨⟨_, exec_after h₁⟩, ⟨_, exec_after h₂⟩, ?_, ?_, ?_, ?_⟩ <;> intro a h <;> cases h

theorem witness_IgnoredOperandBitsHaveNoEffect :
    (5#64).toNat % 2 ^ 32 = (0xABCDEF0100000005#64).toNat % 2 ^ 32 := by decide

/-- Two seeded instances whose scratch RAMs differ, and two unseeded ones whose registers differ. -/
theorem witness_SameStateSameBehaviour :
    SameState (seededWith 1#64) { seededWith 1#64 with P := [(0, 5#64)] } ∧
    SameState State.reset { State.reset with S := 9#128, RDC := 7#3 } := by
  refine ⟨⟨rfl, fun _ => ⟨rfl, rfl, rfl⟩, rfl, rfl, rfl⟩, ⟨rfl, fun h => ?_, rfl, rfl, rfl⟩⟩
  cases h

theorem witness_ResetValuesAreUnobservable :
    HardwareReset State.reset ∧ HardwareReset { State.reset with S := 9#128, RDC := 7#3, P := [(3, 5#64)] } :=
  ⟨⟨_, _, _, _, rfl⟩, ⟨_, _, _, _, rfl⟩⟩

end Sys2Proof.Tests
end

section
/-! Binary64 patterns as integers: the fields of a pattern, the order of the magnitude bits, and the rounding of a ratio
of integers (R13). -/

namespace Sys2Proof.Machine

/-! ## The fields of a pattern -/

/-- The magnitude bits 62:0 of a pattern. -/
def f64Mag (x : Word) : Nat := slice x 62 0

theorem f64Mag_eq (x : Word) : f64Mag x = x.toNat % 2 ^ 63 := by
  simp [f64Mag, slice]

theorem f64Mag_lt (x : Word) : f64Mag x < 2 ^ 63 := by
  rw [f64Mag_eq]; exact Nat.mod_lt _ (by decide)

theorem f64Exp_eq (x : Word) : f64Exp x = f64Mag x / 2 ^ 52 := by
  simp only [f64Exp, slice, f64Mag_eq, BitVec.extractLsb'_toNat, Nat.shiftRight_eq_div_pow]
  omega

theorem f64Frac_eq (x : Word) : f64Frac x = f64Mag x % 2 ^ 52 := by
  simp only [f64Frac, slice, f64Mag_eq, BitVec.extractLsb'_toNat, Nat.shiftRight_eq_div_pow]
  omega

theorem f64Sign_eq (x : Word) : f64Sign x = decide (2 ^ 63 ≤ x.toNat) := by
  rw [f64Sign, ← BitVec.msb_eq_getLsbD_last, BitVec.msb_eq_decide]

theorem f64IsFinite_iff {x : Word} : f64IsFinite x = true ↔ f64Mag x < 2047 * 2 ^ 52 := by
  have := f64Mag_lt x
  rw [f64IsFinite, f64Exp_eq, bne_iff_ne]
  omega

theorem f64IsInf_iff {x : Word} : f64IsInf x = true ↔ f64Mag x = 2047 * 2 ^ 52 := by
  rw [f64IsInf, f64Exp_eq, f64Frac_eq, Bool.and_eq_true, beq_iff_eq, beq_iff_eq]
  omega

theorem f64IsNaN_iff {x : Word} : f64IsNaN x = true ↔ 2047 * 2 ^ 52 < f64Mag x := by
  have := f64Mag_lt x
  rw [f64IsNaN, f64Exp_eq, f64Frac_eq, Bool.and_eq_true, beq_iff_eq, bne_iff_ne]
  omega

theorem f64IsNaN_of_finite {x : Word} (h : f64IsFinite x = true) : f64IsNaN x = false := by
  rw [f64IsFinite_iff] at h
  rw [Bool.eq_false_iff, ne_eq, f64IsNaN_iff]
  omega

theorem f64IsInf_of_finite {x : Word} (h : f64IsFinite x = true) : f64IsInf x = false := by
  rw [f64IsFinite_iff] at h
  rw [Bool.eq_false_iff, ne_eq, f64IsInf_iff]
  omega

/-- A pattern that is neither a NaN nor an infinity is finite. -/
theorem f64IsFinite_of_not {x : Word} (hn : f64IsNaN x = false) (hi : f64IsInf x = false) : f64IsFinite x = true := by
  rw [Bool.eq_false_iff, ne_eq, f64IsNaN_iff] at hn
  rw [Bool.eq_false_iff, ne_eq, f64IsInf_iff] at hi
  rw [f64IsFinite_iff]
  omega

/-- A pattern is its sign and its magnitude bits. -/
theorem word_eq_of_sign_mag {x y : Word} (hs : f64Sign x = f64Sign y) (hm : f64Mag x = f64Mag y) : x = y := by
  rw [f64Sign_eq, f64Sign_eq, decide_eq_decide] at hs
  rw [f64Mag_eq, f64Mag_eq] at hm
  apply BitVec.eq_of_toNat_eq
  omega

theorem toNat_f64Pack (neg : Bool) {m : Nat} (hm : m < 2 ^ 63) :
    (f64Pack neg m).toNat = (if neg then 2 ^ 63 else 0) + m := by
  rw [f64Pack, BitVec.toNat_ofNat]
  split <;> omega

theorem f64Mag_pack (neg : Bool) {m : Nat} (hm : m < 2 ^ 63) : f64Mag (f64Pack neg m) = m := by
  rw [f64Mag_eq, toNat_f64Pack neg hm]
  split <;> omega

theorem f64Sign_pack (neg : Bool) {m : Nat} (hm : m < 2 ^ 63) : f64Sign (f64Pack neg m) = neg := by
  rw [f64Sign_eq, toNat_f64Pack neg hm]
  cases neg
  · simpa using hm
  · simp

@[simp] theorem f64Sign_fneg (x : Word) : f64Sign (fneg x) = !f64Sign x := by
  rw [f64Sign, fneg, BitVec.getLsbD_xor, show BitVec.getLsbD 0x8000000000000000#64 63 = true by decide, Bool.xor_true,
    f64Sign]

@[simp] theorem f64Mag_fneg (x : Word) : f64Mag (fneg x) = f64Mag x := by
  rw [f64Mag, slice, fneg, BitVec.extractLsb'_xor,
    show BitVec.extractLsb' 0 (62 + 1 - 0) 0x8000000000000000#64 = 0#63 by decide, BitVec.xor_zero, f64Mag, slice]

/-! ## The value of magnitude bits -/

/-- The magnitude, in units of `2^-1074`, of the magnitude bits `m`. -/
def magUnits (m : Nat) : Nat := if m / 2 ^ 52 = 0 then m % 2 ^ 52 else (2 ^ 52 + m % 2 ^ 52) * 2 ^ (m / 2 ^ 52 - 1)

theorem f64Units_eq (x : Word) : f64Units x = magUnits (f64Mag x) := by
  rw [f64Units, magUnits, f64Exp_eq, f64Frac_eq]

/-- A significand `k` at the place `2^e` stands at the magnitude bits `e * 2^52 + k`, whether it is subnormal, normal,
or has just reached the next binade. -/
theorem magUnits_place {e k : Nat} (hk : k ≤ 2 ^ 53) (h : e = 0 ∨ 2 ^ 52 ≤ k) :
    magUnits (e * 2 ^ 52 + k) = k * 2 ^ e := by
  rcases Nat.lt_or_ge k (2 ^ 52) with h₀ | h₀
  · obtain rfl : e = 0 := by omega
    rw [magUnits, if_pos (by omega), Nat.zero_mul, Nat.zero_add, Nat.mod_eq_of_lt h₀, pow_zero, Nat.mul_one]
  · rw [magUnits, if_neg (by omega)]
    rcases Nat.lt_or_ge k (2 ^ 53) with h₁ | h₁
    · rw [show (e * 2 ^ 52 + k) / 2 ^ 52 - 1 = e by omega, show 2 ^ 52 + (e * 2 ^ 52 + k) % 2 ^ 52 = k by omega]
    · obtain rfl : k = 2 ^ 53 := by omega
      rw [show (e * 2 ^ 52 + 2 ^ 53) / 2 ^ 52 - 1 = e + 1 by omega,
        show 2 ^ 52 + (e * 2 ^ 52 + 2 ^ 53) % 2 ^ 52 = 2 ^ 52 by omega]
      ring

/-- Every magnitude has a place and a significand below `2^53`. -/
theorem exists_place (m : Nat) : ∃ e k, m = e * 2 ^ 52 + k ∧ k < 2 ^ 53 ∧ (e = 0 ∨ 2 ^ 52 ≤ k) := by
  rcases Nat.lt_or_ge m (2 ^ 52) with h | h
  · exact ⟨0, m, by omega, by omega, .inl rfl⟩
  · exact ⟨m / 2 ^ 52 - 1, m % 2 ^ 52 + 2 ^ 52, by omega, by omega, .inr (by omega)⟩

theorem magUnits_strictMono : StrictMono magUnits := by
  refine strictMono_nat_of_lt_succ fun m => ?_
  obtain ⟨e, k, rfl, hk, he⟩ := exists_place m
  rw [Nat.add_assoc, magUnits_place (by omega) he, magUnits_place (by omega) (by omega)]
  exact Nat.mul_lt_mul_of_pos_right k.lt_succ_self (Nat.two_pow_pos e)

theorem magUnits_zero : magUnits 0 = 0 := rfl

theorem magUnits_eq_zero {m : Nat} : magUnits m = 0 ↔ m = 0 :=
  magUnits_strictMono.injective.eq_iff' magUnits_zero

/-- From `e * 2^52` on, every magnitude is a multiple of `2^e`. -/
theorem dvd_magUnits {e m : Nat} (h : e = 0 ∨ e * 2 ^ 52 + 2 ^ 52 ≤ m) : 2 ^ e ∣ magUnits m := by
  obtain ⟨f, k, rfl, hk, hf⟩ := exists_place m
  rw [magUnits_place hk.le hf]
  exact Dvd.dvd.mul_left (Nat.pow_dvd_pow 2 (by omega)) k

/-- Below `e * 2^52 + 2^52`, every magnitude is below `2^(52 + e)`. -/
theorem magUnits_lt_binade {e m : Nat} (h : m < e * 2 ^ 52 + 2 ^ 52) : magUnits m < 2 ^ 52 * 2 ^ e := by
  rw [← magUnits_place (e := e) (k := 2 ^ 52) (by decide) (.inr le_rfl)]
  exact magUnits_strictMono h

/-! ## Rounding to an integer -/

theorem roundNat_eq_div_or (n d : Nat) : roundNat n d = n / d ∨ roundNat n d = n / d + 1 := by
  unfold roundNat
  split
  · exact .inl rfl
  · exact .inr rfl

/-- No multiple of `d` is nearer to `n` than the one that `roundNat` picks, and of two that are as near it picks the
even one. -/
theorem roundNat_nearest (n d j : Nat) (hd : 0 < d) :
    |((roundNat n d * d : Nat) : Int) - n| ≤ |((j * d : Nat) : Int) - n| ∧
      (|((roundNat n d * d : Nat) : Int) - n| = |((j * d : Nat) : Int) - n| →
        j ≠ roundNat n d → roundNat n d % 2 = 0) := by
  have hn : n / d * d + n % d = n := Nat.div_add_mod' n d
  have hr : n % d < d := Nat.mod_lt n hd
  have hs : (n / d + 1) * d = n / d * d + d := Nat.succ_mul _ _
  simp only [Int.abs_eq_natAbs]
  rcases Nat.lt_trichotomy j (n / d) with h | rfl | h
  · have hj : j * d + d ≤ n / d * d := by
      rw [← Nat.succ_mul]; exact Nat.mul_le_mul_right d h
    unfold roundNat
    split <;> omega
  · unfold roundNat
    split <;> omega
  · have hj : j = n / d + 1 ∨ n / d * d + d + d ≤ j * d := by
      rcases Nat.eq_or_lt_of_le h with h | h
      · exact .inl h.symm
      · refine .inr ?_
        rw [← hs, ← Nat.succ_mul]; exact Nat.mul_le_mul_right d h
    rcases hj with rfl | hj
    · unfold roundNat
      split <;> omega
    · unfold roundNat
      split <;> omega

/-- An even integer is reached by rounding from the halfway point below it on. -/
theorem le_roundNat_iff {c n d : Nat} (hd : 0 < d) (hc : c % 2 = 0) (hc₀ : 0 < c) :
    c ≤ roundNat n d ↔ (2 * c - 1) * d ≤ 2 * n := by
  have hn : n / d * d + n % d = n := Nat.div_add_mod' n d
  have hr : n % d < d := Nat.mod_lt n hd
  have hsub : (2 * c - 1) * d + d = 2 * (c * d) := by
    rw [← Nat.succ_mul, ← Nat.mul_assoc, show (2 * c - 1).succ = 2 * c by omega]
  generalize (2 * c - 1) * d = half at hsub ⊢
  rcases Nat.lt_trichotomy c (n / d + 1) with h | rfl | h
  · have hm : c * d ≤ n / d * d := Nat.mul_le_mul_right d (by omega)
    have := roundNat_eq_div_or n d
    omega
  · have hs : (n / d + 1) * d = n / d * d + d := Nat.succ_mul _ _
    unfold roundNat
    split <;> omega
  · have hm : (n / d + 1 + 1) * d ≤ c * d := Nat.mul_le_mul_right d h
    rw [Nat.succ_mul, Nat.succ_mul] at hm
    have := roundNat_eq_div_or n d
    omega

/-! ## Rounding to binary64 -/

/-- The exponent of the last place of the rounding of `n / d` units. -/
def roundPlace (n d : Nat) : Nat := Nat.log2 (n / d) - 52

/-- The significand of the rounding of `n / d` units. -/
def roundSig (n d : Nat) : Nat := roundNat n (d * 2 ^ roundPlace n d)

theorem roundUnits_eq (n d : Nat) :
    roundUnits n d = min (roundPlace n d * 2 ^ 52 + roundSig n d) (2047 * 2 ^ 52) := rfl

theorem roundUnits_le (n d : Nat) : roundUnits n d ≤ 2047 * 2 ^ 52 := Nat.min_le_right _ _

theorem roundUnits_lt (n d : Nat) : roundUnits n d < 2 ^ 63 := (roundUnits_le n d).trans_lt (by decide)

theorem roundUnits_zero (d : Nat) : roundUnits 0 d = 0 := by
  have h (D : Nat) : roundNat 0 D = 0 := by
    rw [roundNat, Nat.zero_div, Nat.zero_mod, if_pos (by omega)]
  rw [roundUnits, h, Nat.zero_div]
  rfl

/-- The ratio stays below 53 bits above its last place. -/
theorem lt_roundPlace {n d : Nat} (hd : 0 < d) : n < 2 ^ 53 * (d * 2 ^ roundPlace n d) := by
  have h₁ : n / d < 2 ^ (Nat.log2 (n / d) + 1) := Nat.lt_log2_self
  have h₂ : 2 ^ (Nat.log2 (n / d) + 1) ≤ 2 ^ (53 + roundPlace n d) :=
    Nat.pow_le_pow_right (by decide) (by rw [roundPlace]; omega)
  have h₃ := (Nat.div_lt_iff_lt_mul hd).mp (h₁.trans_le h₂)
  rwa [pow_add, Nat.mul_assoc, Nat.mul_comm (2 ^ _) d] at h₃

/-- Unless the last place is the unit itself, the ratio has 53 bits above its last place. -/
theorem roundPlace_le {n d : Nat} (hd : 0 < d) : roundPlace n d = 0 ∨ 2 ^ 52 * (d * 2 ^ roundPlace n d) ≤ n := by
  rcases Nat.eq_zero_or_pos (roundPlace n d) with h | h
  · exact .inl h
  · refine .inr ?_
    have hlog : Nat.log2 (n / d) = 52 + roundPlace n d := by rw [roundPlace] at h ⊢; omega
    have hne : n / d ≠ 0 := by
      intro h₀
      rw [roundPlace, h₀] at h
      exact absurd h (by decide)
    have h₁ : 2 ^ (52 + roundPlace n d) ≤ n / d := hlog ▸ Nat.log2_self_le hne
    have h₂ := (Nat.le_div_iff_mul_le hd).mp h₁
    rwa [pow_add, Nat.mul_assoc, Nat.mul_comm (2 ^ _) d] at h₂

theorem roundSig_le {n d : Nat} (hd : 0 < d) : roundSig n d ≤ 2 ^ 53 := by
  have h := (Nat.div_lt_iff_lt_mul (Nat.mul_pos hd (Nat.two_pow_pos _))).mpr (lt_roundPlace (n := n) hd)
  have := roundNat_eq_div_or n (d * 2 ^ roundPlace n d)
  rw [roundSig]
  omega

theorem roundSig_ge {n d : Nat} (hd : 0 < d) : roundPlace n d = 0 ∨ 2 ^ 52 ≤ roundSig n d := by
  refine (roundPlace_le (n := n) hd).imp_right fun h => ?_
  have h := (Nat.le_div_iff_mul_le (Nat.mul_pos hd (Nat.two_pow_pos _))).mpr h
  have := roundNat_eq_div_or n (d * 2 ^ roundPlace n d)
  rw [roundSig]
  omega

theorem mul_two_pow_le (d : Nat) {e f : Nat} (h : e ≤ f) : d * 2 ^ e ≤ d * 2 ^ f :=
  Nat.mul_le_mul_left d (Nat.pow_le_pow_right two_pos h)

/-- The rounding overflows exactly from halfway between the largest finite value and `2^1024` on. -/
theorem roundUnits_eq_inf_iff {n d : Nat} (hd : 0 < d) :
    roundUnits n d = 2047 * 2 ^ 52 ↔ (2 ^ 54 - 1) * 2 ^ 2044 * d ≤ n := by
  have hle := roundSig_le (n := n) hd
  have hge := roundSig_ge (n := n) hd
  have hhi := lt_roundPlace (n := n) hd
  have hlo := roundPlace_le (n := n) hd
  have hcut : roundUnits n d = 2047 * 2 ^ 52 ↔ 2047 * 2 ^ 52 ≤ roundPlace n d * 2 ^ 52 + roundSig n d := by
    rw [roundUnits_eq]; exact min_eq_right_iff
  rw [hcut]
  rcases Nat.lt_trichotomy (roundPlace n d) 2045 with h | h | h
  · -- the place is too low: the ratio is below `2^2097`
    refine iff_of_false (by omega) (Nat.not_le.mpr ?_)
    have hp : d * 2 ^ roundPlace n d ≤ d * 2 ^ 2044 := mul_two_pow_le d (Nat.lt_succ_iff.mp h)
    calc n < 2 ^ 53 * (d * 2 ^ 2044) := hhi.trans_le (Nat.mul_le_mul_left _ hp)
      _ = 2 ^ 53 * 2 ^ 2044 * d := by rw [Nat.mul_comm d, Nat.mul_assoc]
      _ ≤ (2 ^ 54 - 1) * 2 ^ 2044 * d := Nat.mul_le_mul_right d (Nat.mul_le_mul_right _ (by decide))
  · -- the top place: the significand has to round up to `2^53`
    have hsig : 2 ^ 53 ≤ roundSig n d ↔ (2 * 2 ^ 53 - 1) * (d * 2 ^ roundPlace n d) ≤ 2 * n :=
      le_roundNat_iff (Nat.mul_pos hd (Nat.two_pow_pos _)) (by decide) (by decide)
    have hpow : (2 * 2 ^ 53 - 1) * (d * 2 ^ 2045) = 2 * ((2 ^ 54 - 1) * 2 ^ 2044 * d) := by
      rw [pow_succ 2 2044]
      generalize 2 ^ 2044 = P
      ring
    rw [h, hpow] at hsig
    rw [h]
    constructor
    · intro h'
      exact Nat.le_of_mul_le_mul_left (hsig.mp (by omega)) two_pos
    · intro h'
      have := hsig.mpr (Nat.mul_le_mul_left 2 h')
      omega
  · -- the place is beyond the top: the ratio is at least `2^2098`
    have hp : d * 2 ^ 2046 ≤ d * 2 ^ roundPlace n d := mul_two_pow_le d h
    have hlo' := hlo.resolve_left (by omega)
    refine iff_of_true (by omega) ?_
    calc (2 ^ 54 - 1) * 2 ^ 2044 * d ≤ (2 ^ 52 * 2 ^ 2) * 2 ^ 2044 * d :=
          Nat.mul_le_mul_right d (Nat.mul_le_mul_right _ (by decide))
      _ = 2 ^ 52 * (d * 2 ^ 2046) := by
          rw [pow_add 2 2044 2]
          generalize 2 ^ 2044 = P
          ring
      _ ≤ n := (Nat.mul_le_mul_left _ hp).trans hlo'

/-- The magnitude of a rounding that does not overflow. -/
theorem magUnits_roundUnits {n d : Nat} (hd : 0 < d) (h : roundUnits n d < 2047 * 2 ^ 52) :
    roundUnits n d = roundPlace n d * 2 ^ 52 + roundSig n d ∧
      magUnits (roundUnits n d) = roundSig n d * 2 ^ roundPlace n d := by
  have heq : roundUnits n d = roundPlace n d * 2 ^ 52 + roundSig n d := by
    rw [roundUnits_eq] at h ⊢; omega
  exact ⟨heq, heq ▸ magUnits_place (roundSig_le hd) (roundSig_ge hd)⟩

/-- No magnitude is nearer to `n / d` than the rounded one, and where another is as near, the rounded bits are even. -/
theorem roundUnits_nearest {n d : Nat} (hd : 0 < d) (h : roundUnits n d < 2047 * 2 ^ 52) (m : Nat) :
    |((magUnits (roundUnits n d) * d : Nat) : Int) - n| ≤ |((magUnits m * d : Nat) : Int) - n| ∧
      (|((magUnits (roundUnits n d) * d : Nat) : Int) - n| = |((magUnits m * d : Nat) : Int) - n| →
        magUnits m ≠ magUnits (roundUnits n d) → roundUnits n d % 2 = 0) := by
  obtain ⟨hbits, hval⟩ := magUnits_roundUnits hd h
  have hD : 0 < d * 2 ^ roundPlace n d := Nat.mul_pos hd (Nat.two_pow_pos _)
  have hscale (k : Nat) : k * 2 ^ roundPlace n d * d = k * (d * 2 ^ roundPlace n d) := by ring
  have heven : roundUnits n d % 2 = roundSig n d % 2 := by omega
  rw [hval, hscale, heven]
  by_cases hm : roundPlace n d = 0 ∨ roundPlace n d * 2 ^ 52 + 2 ^ 52 ≤ m
  · -- `m` stands on the grid of the last place
    obtain ⟨j, hj⟩ := dvd_magUnits hm
    rw [hj, Nat.mul_comm (2 ^ _) j, hscale]
    obtain ⟨hle, htie⟩ := roundNat_nearest n _ j hD
    exact ⟨hle, fun he hne => htie he fun hjk => hne (by rw [hjk, roundSig])⟩
  · -- `m` is in a lower binade: the foot of this binade is nearer
    have hlow : magUnits m * d < 2 ^ 52 * (d * 2 ^ roundPlace n d) := by
      rw [← hscale]
      exact Nat.mul_lt_mul_of_pos_right (magUnits_lt_binade (by omega)) hd
    have hfoot : 2 ^ 52 * (d * 2 ^ roundPlace n d) ≤ n := (roundPlace_le hd).resolve_left (by omega)
    have hle := (roundNat_nearest n _ (2 ^ 52) hD).1
    simp only [roundSig, Int.abs_eq_natAbs] at hle ⊢
    omega

end Sys2Proof.Machine
end

section
/-! Rounding of real numbers: the pattern of a rounded ratio is the binary64 nearest to it (`RoundsTo`), and what
follows from `RoundsTo` alone (R13). -/

namespace Sys2Proof.Machine

/-! ## Values of patterns -/

theorem f64Value_fneg (x : Word) : f64Value (fneg x) = -f64Value x := by
  rw [f64Value, f64Value, f64Units_eq, f64Units_eq, f64Mag_fneg, f64Sign_fneg]
  cases f64Sign x <;> simp

theorem f64IsFinite_fneg {x : Word} : f64IsFinite (fneg x) = true ↔ f64IsFinite x = true := by
  rw [f64IsFinite_iff, f64IsFinite_iff, f64Mag_fneg]

theorem IsValue.neg {x : Word} {v : ℝ} (h : IsValue x v) : IsValue (fneg x) (-v) := by
  refine ⟨f64IsFinite_fneg.mpr h.1, ?_⟩
  rw [neg_mul, h.2, f64Value_fneg, Int.cast_neg]

/-- The signed magnitude of a value. -/
theorem IsValue.eq_signed {x : Word} {v : ℝ} (h : IsValue x v) :
    v * 2 ^ 1074 = if f64Sign x then -(f64Units x : ℝ) else f64Units x := by
  rw [h.2, f64Value]
  split <;> simp

theorem IsValue.abs_mul_eq {x : Word} {v : ℝ} (h : IsValue x v) : |v| * 2 ^ 1074 = f64Units x := by
  rw [← abs_of_pos (show (0 : ℝ) < 2 ^ 1074 by positivity), ← abs_mul, h.eq_signed]
  split <;> simp

theorem IsValue.sign_of_neg {x : Word} {v : ℝ} (h : IsValue x v) (hv : v < 0) : f64Sign x = true := by
  by_contra hs
  have h₁ := h.eq_signed
  rw [if_neg hs] at h₁
  have h₂ : v * 2 ^ 1074 < 0 := mul_neg_of_neg_of_pos hv (by positivity)
  exact absurd (h₁ ▸ h₂) (not_lt.mpr (Nat.cast_nonneg _))

theorem IsValue.sign_of_pos {x : Word} {v : ℝ} (h : IsValue x v) (hv : 0 < v) : f64Sign x = false := by
  have h₁ := h.neg.sign_of_neg (neg_lt_zero.mpr hv)
  simpa using h₁

theorem IsValue.units_eq_zero {x : Word} {v : ℝ} (h : IsValue x v) : f64Units x = 0 ↔ v = 0 := by
  rw [← Nat.cast_eq_zero (R := ℝ), ← h.abs_mul_eq, mul_eq_zero, abs_eq_zero, or_iff_left (by positivity)]

theorem IsValue.eq_of_units_eq {x y : Word} {u v : ℝ} (hx : IsValue x u) (hy : IsValue y v)
    (hu : f64Units x = f64Units y) (hs : f64Sign x = f64Sign y ∨ f64Units x = 0) : u = v := by
  rcases hs with hs | hs
  · refine mul_right_cancel₀ (b := (2 : ℝ) ^ 1074) (by positivity) ?_
    rw [hx.eq_signed, hy.eq_signed, hs, hu]
  · rw [hx.units_eq_zero.mp hs, hy.units_eq_zero.mp (hu ▸ hs)]

theorem isValue_zero : IsValue 0#64 0 := by
  refine ⟨by decide, ?_⟩
  rw [show f64Value 0#64 = 0 by decide +kernel]
  simp

theorem isValue_one : IsValue f64One 1 := by
  refine ⟨by decide, ?_⟩
  rw [show f64Value f64One = 2 ^ 1074 by decide +kernel, Int.cast_pow, one_mul, Int.cast_ofNat]

/-! ## Comparison -/

theorem f64Rank_eq (x : Word) : f64Rank x = if f64Sign x then -(f64Mag x : Int) else (f64Mag x : Int) := rfl

theorem f64Value_eq (x : Word) :
    f64Value x = if f64Sign x then -(magUnits (f64Mag x) : Int) else (magUnits (f64Mag x) : Int) := by
  rw [f64Value, f64Units_eq]

/-- The order of the patterns is the order of the exact values. -/
theorem f64Rank_lt_iff (x y : Word) : f64Rank x < f64Rank y ↔ f64Value x < f64Value y := by
  have hlt := magUnits_strictMono.lt_iff_lt (a := f64Mag x) (b := f64Mag y)
  have hgt := magUnits_strictMono.lt_iff_lt (a := f64Mag y) (b := f64Mag x)
  have hx := magUnits_eq_zero (m := f64Mag x)
  have hy := magUnits_eq_zero (m := f64Mag y)
  rw [f64Rank_eq, f64Rank_eq, f64Value_eq, f64Value_eq]
  split <;> split <;> omega

theorem IsValue.lt_iff {x y : Word} {u v : ℝ} (hx : IsValue x u) (hy : IsValue y v) :
    u < v ↔ f64Value x < f64Value y := by
  rw [← Int.cast_lt (R := ℝ), ← hx.2, ← hy.2, mul_lt_mul_iff_left₀ (by positivity)]

theorem IsValue.flt_iff {x y : Word} {u v : ℝ} (hx : IsValue x u) (hy : IsValue y v) : flt x y = true ↔ u < v := by
  rw [hx.lt_iff hy, ← f64Rank_lt_iff, flt, f64IsNaN_of_finite hx.1, f64IsNaN_of_finite hy.1]
  simp

theorem IsValue.fle_iff {x y : Word} {u v : ℝ} (hx : IsValue x u) (hy : IsValue y v) : fle x y = true ↔ u ≤ v := by
  rw [← not_lt, hy.lt_iff hx, ← f64Rank_lt_iff, fle, f64IsNaN_of_finite hx.1, f64IsNaN_of_finite hy.1]
  simp

/-! ## The rounded pattern -/

theorem f64Units_pack (neg : Bool) (n d : Nat) :
    f64Units (f64Pack neg (roundUnits n d)) = magUnits (roundUnits n d) := by
  rw [f64Units_eq, f64Mag_pack neg (roundUnits_lt n d)]

theorem f64Sign_round (neg : Bool) (n d : Nat) : f64Sign (f64Pack neg (roundUnits n d)) = neg :=
  f64Sign_pack neg (roundUnits_lt n d)

theorem f64IsFinite_round {neg : Bool} {n d : Nat} :
    f64IsFinite (f64Pack neg (roundUnits n d)) = true ↔ roundUnits n d < 2047 * 2 ^ 52 := by
  rw [f64IsFinite_iff, f64Mag_pack neg (roundUnits_lt n d)]

theorem f64IsNaN_round (neg : Bool) (n d : Nat) : f64IsNaN (f64Pack neg (roundUnits n d)) = false := by
  rw [Bool.eq_false_iff, ne_eq, f64IsNaN_iff, f64Mag_pack neg (roundUnits_lt n d)]
  exact not_lt.mpr (roundUnits_le n d)

theorem getLsbD_zero_round (neg : Bool) (n d : Nat) :
    (f64Pack neg (roundUnits n d)).getLsbD 0 = false ↔ roundUnits n d % 2 = 0 := by
  have h := toNat_f64Pack neg (roundUnits_lt n d)
  rw [BitVec.getLsbD, Nat.testBit_zero, decide_eq_false_iff_not, h]
  split <;> omega

/-- The overflow limit in units is the limit of `RoundsTo`. -/
theorem limit_le_iff {n d : Nat} {r : ℝ} (hd : 0 < d) (hr : r * 2 ^ 1074 * d = n) :
    (2 ^ 54 - 1) * 2 ^ 2044 * d ≤ n ↔ (2 ^ 54 - 1) * 2 ^ 970 ≤ r := by
  have hd' : (0 : ℝ) < d := Nat.cast_pos.mpr hd
  have hcast : (((2 ^ 54 - 1) * 2 ^ 2044 * d : Nat) : ℝ) = (2 ^ 54 - 1) * 2 ^ 970 * 2 ^ 1074 * d := by
    rw [show 2044 = 970 + 1074 from rfl, pow_add, Nat.cast_mul, Nat.cast_mul, Nat.cast_mul, Nat.cast_pow, Nat.cast_pow,
      Nat.cast_sub (by decide), Nat.cast_pow, Nat.cast_ofNat, Nat.cast_one, ← mul_assoc]
  rw [← Nat.cast_le (α := ℝ), hcast, ← hr, mul_le_mul_iff_left₀ hd', mul_le_mul_iff_left₀ (by positivity)]

/-- `roundUnits_nearest` among the real numbers. -/
theorem roundUnits_nearest_real {n d : Nat} (hd : 0 < d) (h : roundUnits n d < 2047 * 2 ^ 52) (m : Nat) :
    |(magUnits (roundUnits n d) * d : ℝ) - n| ≤ |(magUnits m * d : ℝ) - n| ∧
      (|(magUnits (roundUnits n d) * d : ℝ) - n| = |(magUnits m * d : ℝ) - n| →
        magUnits m ≠ magUnits (roundUnits n d) → roundUnits n d % 2 = 0) := by
  exact_mod_cast roundUnits_nearest hd h m

/-- An opposite sign only moves a magnitude `b` further away from `n`. -/
theorem abs_sub_le_abs_neg_sub {b n : ℝ} (hb : 0 ≤ b) (hn : 0 ≤ n) : |b - n| ≤ |-b - n| := by
  rw [← neg_add', abs_neg, abs_of_nonneg (add_nonneg hb hn), abs_sub_le_iff]
  constructor <;> linarith

/-- A real number from its sign and its magnitude. -/
theorem eq_signed_of_abs {neg : Bool} {v : ℝ} (hneg : v < 0 → neg = true) (hpos : 0 < v → neg = false) :
    v = if neg then -|v| else |v| := by
  cases neg
  · rw [if_neg Bool.false_ne_true, abs_of_nonneg (not_lt.mp fun h => Bool.false_ne_true (hneg h))]
  · rw [if_pos rfl, abs_of_nonpos (not_lt.mp fun h => Bool.false_ne_true (hpos h).symm), neg_neg]

/-- The distance of the value of `w` from `v`, in units of `2^-1074 / d`: where the signs differ, the
magnitudes add up. -/
theorem IsValue.dist_eq {neg : Bool} {n d : Nat} {v b : ℝ} {w : Word} (hv : |v| * 2 ^ 1074 * d = n)
    (hneg : v < 0 → neg = true) (hpos : 0 < v → neg = false) (hw : IsValue w b) :
    |b - v| * (2 ^ 1074 * d) = |(if f64Sign w = neg then (f64Units w * d : ℝ) else -(f64Units w * d)) - n| := by
  have hS : (0 : ℝ) ≤ 2 ^ 1074 * d := by positivity
  have hb : b * (2 ^ 1074 * d) = if f64Sign w then -(f64Units w * d : ℝ) else f64Units w * d := by
    rw [← mul_assoc, hw.eq_signed]; split <;> simp only [neg_mul]
  have hv' : v * (2 ^ 1074 * d) = if neg then -(n : ℝ) else n := by
    rw [eq_signed_of_abs hneg hpos, ← hv, mul_assoc]; split <;> simp only [neg_mul]
  rw [← abs_of_nonneg hS, ← abs_mul, sub_mul, hb, hv']
  cases f64Sign w <;> cases neg
  · simp
  · rw [← abs_neg]; simp [sub_eq_add_neg, add_comm]
  · simp
  · rw [← abs_neg]; simp [sub_eq_add_neg, add_comm]

/-- The pattern with the sign of `v` and the rounded magnitude of `v` is the binary64 nearest to `v`, ties to even. -/
theorem roundsTo_pack {neg : Bool} {n d : Nat} {v : ℝ} (hd : 0 < d) (hv : |v| * 2 ^ 1074 * d = n)
    (hneg : v < 0 → neg = true) (hpos : 0 < v → neg = false) : RoundsTo (f64Pack neg (roundUnits n d)) v := by
  have hinf : f64IsInf (f64Pack neg (roundUnits n d)) = true ↔ (2 ^ 54 - 1) * 2 ^ 970 ≤ |v| := by
    rw [f64IsInf_iff, f64Mag_pack neg (roundUnits_lt n d), roundUnits_eq_inf_iff hd, limit_le_iff hd hv]
  refine ⟨f64IsNaN_round neg n d, hinf, fun h => ?_, fun h => ?_, fun a ha w b hb => ?_⟩
  · rw [f64Sign_round, hneg h]
  · rw [f64Sign_round, hpos h]
  have hS : (0 : ℝ) < 2 ^ 1074 * d := mul_pos (by positivity) (Nat.cast_pos.mpr hd)
  obtain ⟨hle, htie⟩ := roundUnits_nearest_real hd (f64IsFinite_round.mp ha.1) (f64Mag w)
  rw [← f64Units_eq, ← f64Units_pack neg n d] at hle htie
  have hz := ha.dist_eq hv hneg hpos
  have hw := hb.dist_eq hv hneg hpos
  rw [f64Sign_round, if_pos rfl] at hz
  -- moving `w` to the sign of `v` brings it no further away
  have hsame : |(f64Units w * d : ℝ) - n| ≤ |b - v| * (2 ^ 1074 * d) := by
    rw [hw]
    split
    · exact le_rfl
    · exact abs_sub_le_abs_neg_sub (by positivity) (by positivity)
  constructor
  · exact le_of_mul_le_mul_right ((hz.trans_le hle).trans hsame) hS
  · intro heq hne
    refine (getLsbD_zero_round neg n d).mpr ?_
    rcases Nat.eq_zero_or_pos n with rfl | hn
    · rw [roundUnits_zero]
    refine htie (le_antisymm hle (by rw [← hz, heq]; exact hsame)) fun hu => hne ?_
    -- with the same magnitude the signs agree, or `w` would be further away
    rw [hu] at hw
    refine ha.eq_of_units_eq hb hu.symm ?_
    by_cases hs : f64Sign w = neg
    · exact .inl (by rw [f64Sign_round, hs])
    · rw [if_neg hs, ← heq, hz] at hw
      have hd' : (d : ℝ) ≠ 0 := Nat.cast_ne_zero.mpr hd.ne'
      have hn' : (0 : ℝ) < n := Nat.cast_pos.mpr hn
      refine .inr (Nat.cast_eq_zero.mp ((mul_eq_zero_iff_right hd').mp ?_))
      rcases abs_eq_abs.mp hw with h | h <;> linarith

end Sys2Proof.Machine
end

section
/-! The operators of R13 on finite operands, and the statements about them. -/

namespace Sys2Proof.Machine

/-! ## What each operator computes on finite operands -/

/-- The sign of a sum: that of the exact sum, and of a zero sum the common sign of the operands. -/
def addSign (x y : Word) : Bool :=
  if f64Value x + f64Value y = 0 then f64Sign x && f64Sign y else decide (f64Value x + f64Value y < 0)

theorem fadd_of_finite {x y : Word} (hx : f64IsFinite x = true) (hy : f64IsFinite y = true) :
    fadd x y = f64Pack (addSign x y) (roundUnits (f64Value x + f64Value y).natAbs 1) := by
  rw [fadd, f64IsNaN_of_finite hx, f64IsNaN_of_finite hy, f64IsInf_of_finite hx, f64IsInf_of_finite hy, addSign]
  by_cases h : f64Value x + f64Value y = 0
  · simp [h, roundUnits_zero]
  · simp [h]

theorem fmul_of_finite {x y : Word} (hx : f64IsFinite x = true) (hy : f64IsFinite y = true) :
    fmul x y = f64Pack (f64Sign x != f64Sign y) (roundUnits (f64Units x * f64Units y) (2 ^ 1074)) := by
  rw [fmul, f64IsNaN_of_finite hx, f64IsNaN_of_finite hy, f64IsInf_of_finite hx, f64IsInf_of_finite hy]
  rfl

theorem fdiv_of_finite {x y : Word} (hx : f64IsFinite x = true) (hy : f64IsFinite y = true) (h : f64Units y ≠ 0) :
    fdiv x y = f64Pack (f64Sign x != f64Sign y) (roundUnits (f64Units x * 2 ^ 1074) (f64Units y)) := by
  rw [fdiv, f64IsNaN_of_finite hx, f64IsNaN_of_finite hy, f64IsInf_of_finite hx, f64IsInf_of_finite hy, if_neg h]
  rfl

/-! ## Each operator rounds its exact result -/

/-- A ratio of integers, rounded, with sign 0. -/
theorem roundsTo_ratio (n : Nat) {d : Nat} (hd : 0 < d) :
    RoundsTo (f64Pack false (roundUnits (n * 2 ^ 1074) d)) ((n : ℝ) / d) := by
  have hd' : (d : ℝ) ≠ 0 := Nat.cast_ne_zero.mpr hd.ne'
  have hv : (0 : ℝ) ≤ n / d := by positivity
  refine roundsTo_pack hd ?_ (fun h => absurd h (not_lt.mpr hv)) fun _ => rfl
  rw [abs_of_nonneg hv, mul_right_comm, div_mul_cancel₀ _ hd', Nat.cast_mul, Nat.cast_pow, Nat.cast_ofNat]

theorem IsValue.add_eq {x y : Word} {u v : ℝ} (hx : IsValue x u) (hy : IsValue y v) :
    (u + v) * 2 ^ 1074 = ((f64Value x + f64Value y : Int) : ℝ) := by
  rw [add_mul, hx.2, hy.2, Int.cast_add]

theorem IsValue.add_eq_zero {x y : Word} {u v : ℝ} (hx : IsValue x u) (hy : IsValue y v) :
    u + v = 0 ↔ f64Value x + f64Value y = 0 := by
  rw [← Int.cast_eq_zero (α := ℝ), ← hx.add_eq hy, mul_eq_zero, or_iff_left (by positivity)]

theorem IsValue.add_neg {x y : Word} {u v : ℝ} (hx : IsValue x u) (hy : IsValue y v) :
    u + v < 0 ↔ f64Value x + f64Value y < 0 := by
  rw [← Int.cast_lt_zero (R := ℝ), ← hx.add_eq hy, ← not_le, ← not_le, mul_nonneg_iff_of_pos_right (by positivity)]

theorem roundsTo_fadd {x y : Word} {u v : ℝ} (hx : IsValue x u) (hy : IsValue y v) : RoundsTo (fadd x y) (u + v) := by
  rw [fadd_of_finite hx.1 hy.1]
  refine roundsTo_pack one_pos ?_ (fun h => ?_) fun h => ?_
  · rw [Nat.cast_one, mul_one, Nat.cast_natAbs, Int.cast_abs, ← hx.add_eq hy, abs_mul,
      abs_of_pos (a := 2 ^ 1074) (by positivity)]
  · rw [addSign, if_neg ((hx.add_eq_zero hy).not.mp h.ne), decide_eq_true ((hx.add_neg hy).mp h)]
  · rw [addSign, if_neg ((hx.add_eq_zero hy).not.mp h.ne'), decide_eq_false ((hx.add_neg hy).not.mp h.le.not_gt)]

theorem f64Sign_fadd_of_zero {x y : Word} {u v : ℝ} (hx : IsValue x u) (hy : IsValue y v) (h : u + v = 0) :
    f64Sign (fadd x y) = (f64Sign x && f64Sign y) := by
  rw [fadd_of_finite hx.1 hy.1, f64Sign_round, addSign, if_pos ((hx.add_eq_zero hy).mp h)]

theorem roundsTo_fsub {x y : Word} {u v : ℝ} (hx : IsValue x u) (hy : IsValue y v) : RoundsTo (fsub x y) (u - v) := by
  rw [sub_eq_add_neg]
  exact roundsTo_fadd hx hy.neg

theorem f64Sign_fsub_of_zero {x y : Word} {u v : ℝ} (hx : IsValue x u) (hy : IsValue y v) (h : u - v = 0) :
    f64Sign (fsub x y) = (f64Sign x && !f64Sign y) := by
  rw [← f64Sign_fneg]
  exact f64Sign_fadd_of_zero hx hy.neg (by rwa [← sub_eq_add_neg])

theorem IsValue.sign_bne_of_opposite {x y : Word} {u v : ℝ} (hx : IsValue x u) (hy : IsValue y v)
    (h : 0 < u ∧ v < 0 ∨ u < 0 ∧ 0 < v) : (f64Sign x != f64Sign y) = true := by
  rcases h with ⟨hu, hv⟩ | ⟨hu, hv⟩
  · rw [hx.sign_of_pos hu, hy.sign_of_neg hv]; rfl
  · rw [hx.sign_of_neg hu, hy.sign_of_pos hv]; rfl

theorem IsValue.sign_bne_of_same {x y : Word} {u v : ℝ} (hx : IsValue x u) (hy : IsValue y v)
    (h : 0 < u ∧ 0 < v ∨ u < 0 ∧ v < 0) : (f64Sign x != f64Sign y) = false := by
  rcases h with ⟨hu, hv⟩ | ⟨hu, hv⟩
  · rw [hx.sign_of_pos hu, hy.sign_of_pos hv]; rfl
  · rw [hx.sign_of_neg hu, hy.sign_of_neg hv]; rfl

theorem roundsTo_fmul {x y : Word} {u v : ℝ} (hx : IsValue x u) (hy : IsValue y v) : RoundsTo (fmul x y) (u * v) := by
  rw [fmul_of_finite hx.1 hy.1]
  refine roundsTo_pack (pow_pos two_pos 1074) ?_ (fun h => hx.sign_bne_of_opposite hy (mul_neg_iff.mp h))
    fun h => hx.sign_bne_of_same hy (mul_pos_iff.mp h)
  rw [Nat.cast_mul, ← hx.abs_mul_eq, ← hy.abs_mul_eq, abs_mul, Nat.cast_pow, Nat.cast_ofNat, mul_assoc,
    mul_mul_mul_comm]

theorem f64Sign_fmul {x y : Word} (hx : f64IsFinite x = true) (hy : f64IsFinite y = true) :
    f64Sign (fmul x y) = (f64Sign x != f64Sign y) := by
  rw [fmul_of_finite hx hy, f64Sign_round]

theorem roundsTo_fdiv {x y : Word} {u v : ℝ} (hx : IsValue x u) (hy : IsValue y v) (hv : v ≠ 0) :
    RoundsTo (fdiv x y) (u / v) := by
  have hu : f64Units y ≠ 0 := mt hy.units_eq_zero.mp hv
  rw [fdiv_of_finite hx.1 hy.1 hu]
  refine roundsTo_pack (Nat.pos_of_ne_zero hu) ?_ (fun h => hx.sign_bne_of_opposite hy (div_neg_iff.mp h))
    fun h => hx.sign_bne_of_same hy (div_pos_iff.mp h)
  rw [Nat.cast_mul, ← hx.abs_mul_eq, ← hy.abs_mul_eq, abs_div, Nat.cast_pow, Nat.cast_ofNat]
  have hv' : |v| ≠ 0 := abs_ne_zero.mpr hv
  generalize (2 : ℝ) ^ 1074 = S
  field_simp

theorem f64Sign_fdiv {x y : Word} {v : ℝ} (hx : f64IsFinite x = true) (hy : IsValue y v) (hv : v ≠ 0) :
    f64Sign (fdiv x y) = (f64Sign x != f64Sign y) := by
  rw [fdiv_of_finite hx hy.1 (mt hy.units_eq_zero.mp hv), f64Sign_round]

theorem roundsTo_cvtU64F64 (j : Nat) : RoundsTo (cvtU64F64 j) j := by
  have h := roundsTo_ratio j one_pos
  rwa [Nat.cast_one, div_one] at h

/-! ## Infinities and NaNs -/

theorem fadd_inf_of_finite {x : Word} (hx : f64IsFinite x = true) : fadd x f64Inf = f64Inf := by
  rw [fadd, f64IsNaN_of_finite hx, f64IsInf_of_finite hx]
  rfl

theorem fcmp_of_isNaN {x : Word} (hx : f64IsNaN x = true) (y : Word) :
    flt x y = false ∧ fle x y = false ∧ flt y x = false ∧ fle y x = false := by
  simp [flt, fle, hx]

end Sys2Proof.Machine

namespace Sys2Proof.Proofs

open Sys2Proof Sys2Proof.Machine

/-- Settles O25: a finite operand leaves the infinity of a sum, a NaN closes every comparison, and the rest are closed
facts. -/
theorem infinitiesAndZerosFollowIeee : Obligations.InfinitiesAndZerosFollowIeee := by
  have hneg : fneg f64NegInf = f64Inf := by decide
  refine ⟨fun x hx => ?_, by decide, by decide, by decide, by decide, by decide, fun x y hx => fcmp_of_isNaN hx y⟩
  rw [fsub, hneg, fadd_inf_of_finite hx]

/-- Settles O24: the integer rounding picks the nearest multiple of its last place (`roundUnits_nearest`), so that each
operator, which rounds its exact result, gives the nearest binary64 (`roundsTo_pack`). -/
theorem roundingIsToNearestEven : Obligations.RoundingIsToNearestEven := by
  refine ⟨fun n d hd => ⟨roundUnits_eq_inf_iff hd, fun hfin z _ => ?_⟩, fun x y u v hx hy => ?_, fun j _ => ?_⟩
  · rw [f64Units_pack, f64Units_eq z]
    exact roundUnits_nearest hd hfin (f64Mag z)
  · exact ⟨roundsTo_fadd hx hy, f64Sign_fadd_of_zero hx hy, roundsTo_fsub hx hy, f64Sign_fsub_of_zero hx hy,
      roundsTo_fmul hx hy, f64Sign_fmul hx.1 hy.1, fun hv => ⟨roundsTo_fdiv hx hy hv, f64Sign_fdiv hx.1 hy hv⟩,
      hx.neg, f64Sign_fneg x, hx.flt_iff hy, hx.fle_iff hy⟩
  · exact ⟨roundsTo_cvtU64F64 j, f64Sign_round false _ 1⟩

end Sys2Proof.Proofs
end

section
/-! What follows from `RoundsTo` alone: a value between two that round alike rounds as they do, and rounding keeps the
order. The two functions of R14 rest on these. -/

namespace Sys2Proof.Machine

/-- The lower of two values is the nearer one up to their midpoint. -/
theorem abs_sub_le_iff_of_lt {c d x : ℝ} (h : c < d) : |c - x| ≤ |d - x| ↔ 2 * x ≤ c + d := by
  rw [← sq_le_sq]
  constructor <;> intro h' <;> nlinarith

/-- The upper of two values is the nearer one from their midpoint on. -/
theorem abs_sub_le_iff_of_gt {c d x : ℝ} (h : d < c) : |c - x| ≤ |d - x| ↔ c + d ≤ 2 * x := by
  rw [← sq_le_sq]
  constructor <;> intro h' <;> nlinarith

theorem abs_sub_eq_iff_of_lt {c d x : ℝ} (h : c < d) : |c - x| = |d - x| ↔ 2 * x = c + d := by
  rw [le_antisymm_iff, le_antisymm_iff, abs_sub_le_iff_of_lt h, abs_sub_le_iff_of_gt h, add_comm d c]

/-- Rounding to one pattern is a convex property: between two real numbers that round alike, all do. -/
theorem RoundsTo.of_between {z : Word} {a b v : ℝ} (ha : RoundsTo z a) (hb : RoundsTo z b) (hav : a ≤ v) (hvb : v ≤ b) :
    RoundsTo z v := by
  obtain ⟨hnan, hinfa, hnega, hposa, hnear⟩ := ha
  obtain ⟨-, hinfb, hnegb, hposb, hnear'⟩ := hb
  refine ⟨hnan, ⟨fun hz => ?_, fun hv => ?_⟩, fun hv => hnega (hav.trans_lt hv), fun hv => hposb (hv.trans_le hvb),
    fun c hc w d hd => ?_⟩
  · rcases le_or_gt 0 a with h | h
    · exact (hinfa.mp hz).trans (abs_le_abs_of_nonneg h hav)
    · have hb₀ : b ≤ 0 := not_lt.mp fun hb₀ => Bool.false_ne_true ((hposb hb₀).symm.trans (hnega h))
      exact (hinfb.mp hz).trans (abs_le_abs_of_nonpos hb₀ hvb)
  · rcases le_max_iff.mp (hv.trans (abs_le_max_abs_abs hav hvb)) with h | h
    · exact hinfa.mpr h
    · exact hinfb.mpr h
  · obtain ⟨hlea, htiea⟩ := hnear c hc w d hd
    obtain ⟨hleb, htieb⟩ := hnear' c hc w d hd
    rcases lt_trichotomy c d with hcd | rfl | hcd
    · rw [abs_sub_le_iff_of_lt hcd] at hleb
      rw [abs_sub_le_iff_of_lt hcd]
      refine ⟨by linarith, fun heq _ => ?_⟩
      have hvb' : v = b := le_antisymm hvb (by linarith [(abs_sub_eq_iff_of_lt hcd).mp heq])
      exact htieb (hvb' ▸ heq) hcd.ne
    · exact ⟨le_rfl, fun _ hne => absurd rfl hne⟩
    · rw [abs_sub_le_iff_of_gt hcd] at hlea
      rw [abs_sub_le_iff_of_gt hcd]
      refine ⟨by linarith, fun heq _ => ?_⟩
      have hva' : v = a := le_antisymm (by linarith [(abs_sub_eq_iff_of_lt hcd).mp heq.symm]) hav
      exact htiea (hva' ▸ heq) hcd.ne'

/-- Rounding keeps the order with a binary64 value above. -/
theorem RoundsTo.le_of_le {z w : Word} {r a b : ℝ} (hz : RoundsTo z r) (ha : IsValue z a) (hb : IsValue w b)
    (h : r ≤ b) : a ≤ b := by
  obtain ⟨-, -, -, -, hnear⟩ := hz
  have hle := (hnear a ha w b hb).1
  rw [abs_of_nonneg (sub_nonneg.mpr h)] at hle
  linarith [le_abs_self (a - r)]

/-- Rounding keeps the order with a binary64 value below. -/
theorem RoundsTo.ge_of_ge {z w : Word} {r a b : ℝ} (hz : RoundsTo z r) (ha : IsValue z a) (hb : IsValue w b)
    (h : b ≤ r) : b ≤ a := by
  obtain ⟨-, -, -, -, hnear⟩ := hz
  have hle := (hnear a ha w b hb).1
  rw [abs_of_nonpos (sub_nonpos.mpr h)] at hle
  linarith [neg_abs_le (a - r)]

/-- A real number below the overflow limit rounds to a finite pattern. -/
theorem RoundsTo.isFinite {z : Word} {r : ℝ} (hz : RoundsTo z r) (h : |r| < (2 ^ 54 - 1) * 2 ^ 970) :
    f64IsFinite z = true := by
  obtain ⟨hnan, hinf, -⟩ := hz
  exact f64IsFinite_of_not hnan (Bool.eq_false_iff.mpr (mt hinf.mp (not_le.mpr h)))

/-- The overflow limit is above every small number the functions of R14 meet. -/
theorem lt_limit {r : ℝ} (h : r < 2 ^ 53) : r < (2 ^ 54 - 1) * 2 ^ 970 := by
  calc r < 2 ^ 53 := h
    _ ≤ 2 ^ 54 - 1 := by norm_num
    _ ≤ (2 ^ 54 - 1) * 2 ^ 970 := le_mul_of_one_le_right (by norm_num) (one_le_pow₀ one_le_two)

theorem roundsTo_zero : RoundsTo 0#64 0 := by
  have h := roundsTo_ratio 0 one_pos
  rwa [Nat.cast_zero, zero_div, show f64Pack false (roundUnits (0 * 2 ^ 1074) 1) = 0#64 by decide +kernel] at h

theorem roundsTo_one : RoundsTo f64One 1 := by
  have h := roundsTo_ratio 1 one_pos
  rwa [Nat.cast_one, div_one, show f64Pack false (roundUnits (1 * 2 ^ 1074) 1) = f64One by decide +kernel] at h

/-- Half the smallest positive value, a tie, still rounds to 0. -/
theorem roundsTo_zero_of_tiny {v : ℝ} (h₀ : 0 ≤ v) (h : v ≤ 1 / 2 ^ 1075) : RoundsTo 0#64 v := by
  have htie := roundsTo_ratio 1 (d := 2 ^ 1075) (pow_pos two_pos 1075)
  rw [Nat.cast_one, Nat.cast_pow, Nat.cast_ofNat,
    show f64Pack false (roundUnits (1 * 2 ^ 1074) (2 ^ 1075)) = 0#64 by decide +kernel] at htie
  exact roundsTo_zero.of_between htie h₀ h

/-! ## Integer quotients as bounds of real ones -/

theorem cast_div_le_of_le {m d : Nat} {r : ℝ} (h : (m : ℝ) / d ≤ r) : ((m / d : Nat) : ℝ) ≤ r :=
  Nat.cast_div_le.trans h

theorem le_cast_div_add_one {m d : Nat} {r : ℝ} (hd : 0 < d) (h : r ≤ (m : ℝ) / d) :
    r ≤ ((m / d + 1 : Nat) : ℝ) := by
  have hd' : (0 : ℝ) < d := Nat.cast_pos.mpr hd
  refine h.trans ((div_le_iff₀' hd').mpr ?_)
  exact_mod_cast (Nat.lt_mul_div_succ m hd).le

theorem mul_div_two_pow (p : Nat) (v w : ℝ) : v * w / ((2 ^ p : Nat) : ℝ) = v / 2 ^ p * (w / 2 ^ p) * 2 ^ p := by
  push_cast
  field_simp

/-- A product of lower bounds over `2^p`, rounded down, is a lower bound of the product. -/
theorem fixedMul_le {p v w : Nat} {x y : ℝ} (hx : 0 ≤ x) (hv : (v : ℝ) ≤ x * 2 ^ p) (hw : (w : ℝ) ≤ y * 2 ^ p) :
    ((v * w / 2 ^ p : Nat) : ℝ) ≤ x * y * 2 ^ p := by
  refine cast_div_le_of_le ?_
  rw [← div_le_iff₀ (by positivity)] at hv hw
  rw [Nat.cast_mul, mul_div_two_pow]
  exact mul_le_mul_of_nonneg_right (mul_le_mul hv hw (by positivity) hx) (by positivity)

/-- A product of upper bounds over `2^p`, rounded up, is an upper bound of the product. -/
theorem le_fixedMul {p v w : Nat} {x y : ℝ} (hy : 0 ≤ y) (hv : x * 2 ^ p ≤ v) (hw : y * 2 ^ p ≤ w) :
    x * y * 2 ^ p ≤ ((v * w / 2 ^ p + 1 : Nat) : ℝ) := by
  refine le_cast_div_add_one (by positivity) ?_
  rw [← le_div_iff₀ (by positivity)] at hv hw
  rw [Nat.cast_mul, mul_div_two_pow]
  exact mul_le_mul_of_nonneg_right (mul_le_mul hv hw hy (by positivity)) (by positivity)

/-! ## Trying the precisions in turn -/

theorem firstAgreement_cases (f : Nat → Word × Word) (ps : List Nat) :
    ∃ p ∈ 5120 :: ps, firstAgreement f ps = (f p).1 := by
  induction ps with
  | nil => exact ⟨5120, by simp, rfl⟩
  | cons q ps ih =>
    rw [firstAgreement]
    split
    · exact ⟨q, by simp, rfl⟩
    · obtain ⟨p, hp, he⟩ := ih
      exact ⟨p, by grind, he⟩

theorem firstAgreement_of_decided {f : Nat → Word × Word} {ps : List Nat} (h : ∃ p ∈ ps, (f p).1 = (f p).2) :
    ∃ p ∈ ps, firstAgreement f ps = (f p).1 ∧ (f p).1 = (f p).2 := by
  induction ps with
  | nil => simp at h
  | cons q ps ih =>
    rw [firstAgreement]
    split
    next hq => exact ⟨q, by simp, rfl, hq⟩
    next hq =>
      obtain ⟨p, hp, he⟩ := ih (by simpa [hq] using h)
      exact ⟨p, List.mem_cons_of_mem q hp, he⟩

/-- Two ends that enclose the real number `r` at every working precision decide its rounding where they agree. -/
theorem roundsTo_firstAgreement {f : Nat → Word × Word} {r : ℝ}
    (henc : ∀ p ∈ precisions, ∃ a b, RoundsTo (f p).1 a ∧ RoundsTo (f p).2 b ∧ a ≤ r ∧ r ≤ b)
    (h : ∃ p ∈ precisions, (f p).1 = (f p).2) : RoundsTo (firstAgreement f precisions) r := by
  obtain ⟨p, hp, hres, hagree⟩ := firstAgreement_of_decided h
  obtain ⟨a, b, ha, hb, har, hrb⟩ := henc p hp
  rw [hres]
  exact ha.of_between (hagree ▸ hb) har hrb

end Sys2Proof.Machine
end

section
/-! `EXP64` (R14): the bounds enclose the exponential because each term of the series, and each squaring, is rounded
outwards. -/

namespace Sys2Proof.Machine

/-! ## The rest of the exponential series -/

/-- What the terms of the exponential series of `x` from number `k` on add up to. -/
noncomputable def expRest (x : ℝ) (k : Nat) : ℝ := Real.exp x - ∑ i ∈ Finset.range k, x ^ i / i.factorial

theorem expRest_zero (x : ℝ) : expRest x 0 = Real.exp x := by
  rw [expRest, Finset.range_zero, Finset.sum_empty, sub_zero]

theorem expRest_eq_add (x : ℝ) (k : Nat) : expRest x k = x ^ k / k.factorial + expRest x (k + 1) := by
  rw [expRest, expRest, Finset.sum_range_succ]
  ring

theorem expRest_nonneg {x : ℝ} (hx : 0 ≤ x) (k : Nat) : 0 ≤ expRest x k :=
  sub_nonneg.mpr (Real.sum_le_exp_of_nonneg hx k)

/-- From the second term on, the rest is at most twice its first term. -/
theorem expRest_le {x : ℝ} (hx : 0 ≤ x) (hx₁ : x ≤ 1) {k : Nat} (hk : 0 < k) :
    expRest x k ≤ 2 * (x ^ k / k.factorial) := by
  have hk₁ : (1 : ℝ) ≤ k := by exact_mod_cast hk
  have hfac : (0 : ℝ) < k.factorial := by exact_mod_cast k.factorial_pos
  calc expRest x k ≤ x ^ k * (k + 1) / (k.factorial * k) := by
        rw [expRest, sub_le_iff_le_add']; exact Real.exp_bound' hx hx₁ hk
    _ = (k + 1) / k * (x ^ k / k.factorial) := by field_simp
    _ ≤ 2 * (x ^ k / k.factorial) := by
        refine mul_le_mul_of_nonneg_right ?_ (by positivity)
        rw [div_le_iff₀ (by linarith)]
        linarith

theorem pow_succ_div_factorial (x S : ℝ) (k : Nat) :
    x ^ (k + 1) / (k + 1).factorial * S = x ^ k / k.factorial * x * S / (k + 1) := by
  rw [Nat.factorial_succ]
  push_cast
  field_simp
  ring

/-- The next term of the series over `2^p`, as the model computes it before rounding. -/
theorem expTerm_step {p : Nat} (t y : ℝ) (k : Nat) :
    t * y / (((k + 1) * 2 ^ p : Nat) : ℝ) = t / 2 ^ p * (y / 2 ^ p) * 2 ^ p / (k + 1) := by
  push_cast
  field_simp

theorem expSeriesLo_le {p y : Nat} {x : ℝ} (hx : 0 ≤ x) (hy : (y : ℝ) ≤ x * 2 ^ p) (n k t : Nat)
    (ht : (t : ℝ) ≤ x ^ k / k.factorial * 2 ^ p) : (expSeriesLo p y n k t : ℝ) ≤ expRest x k * 2 ^ p := by
  have hS : (0 : ℝ) < 2 ^ p := by positivity
  induction n generalizing k t with
  | zero => simpa [expSeriesLo] using mul_nonneg (expRest_nonneg hx k) hS.le
  | succ n ih =>
    rw [expSeriesLo, expRest_eq_add, Nat.cast_add, add_mul (_ / _)]
    refine add_le_add ht (ih (k + 1) _ (cast_div_le_of_le ?_))
    rw [Nat.cast_mul, expTerm_step, pow_succ_div_factorial]
    rw [← div_le_iff₀ hS] at ht hy
    gcongr

theorem le_expSeriesHi {p y : Nat} {x : ℝ} (hx : 0 ≤ x) (hx₁ : x ≤ 1) (hy : x * 2 ^ p ≤ y) (n k t : Nat)
    (hk : 0 < n + k) (ht : x ^ k / k.factorial * 2 ^ p ≤ t) : expRest x k * 2 ^ p ≤ (expSeriesHi p y n k t : ℝ) := by
  have hS : (0 : ℝ) < 2 ^ p := by positivity
  induction n generalizing k t with
  | zero =>
    rw [expSeriesHi, Nat.cast_mul, Nat.cast_ofNat]
    have hrest := mul_le_mul_of_nonneg_right (expRest_le hx hx₁ (k := k) (by omega)) hS.le
    linarith
  | succ n ih =>
    rw [expSeriesHi, expRest_eq_add, Nat.cast_add, add_mul (_ / _)]
    refine add_le_add ht (ih (k + 1) _ (by omega) (le_cast_div_add_one (by positivity) ?_))
    rw [Nat.cast_mul, expTerm_step, pow_succ_div_factorial]
    rw [← le_div_iff₀ hS] at ht hy
    gcongr

/-! ## Squaring -/

theorem squareLo_le {p : Nat} (n v : Nat) {x : ℝ} (hx : 0 ≤ x) (hv : (v : ℝ) ≤ x * 2 ^ p) :
    (squareLo p n v : ℝ) ≤ x ^ 2 ^ n * 2 ^ p := by
  induction n generalizing v x with
  | zero => simpa [squareLo] using hv
  | succ n ih =>
    rw [squareLo, pow_succ' 2 n, pow_mul, sq]
    exact ih _ (by positivity) (fixedMul_le hx hv hv)

theorem le_squareHi {p : Nat} (n v : Nat) {x : ℝ} (hx : 0 ≤ x) (hv : x * 2 ^ p ≤ v) :
    x ^ 2 ^ n * 2 ^ p ≤ (squareHi p n v : ℝ) := by
  induction n generalizing v x with
  | zero => simpa [squareHi] using hv
  | succ n ih =>
    rw [squareHi, pow_succ' 2 n, pow_mul, sq]
    exact ih _ (by positivity) (le_fixedMul hx hv hv)

theorem two_pow_le_squareLo {p : Nat} (n : Nat) {v : Nat} (hv : 2 ^ p ≤ v) : 2 ^ p ≤ squareLo p n v := by
  induction n generalizing v with
  | zero => exact hv
  | succ n ih =>
    refine ih (hv.trans ?_)
    rw [Nat.le_div_iff_mul_le (by positivity)]
    exact Nat.mul_le_mul_left v hv

/-! ## The enclosure -/

/-- The bound 746 in units. -/
theorem units_lt_iff {u : Nat} : u < 746 * 2 ^ 1074 ↔ (u : ℝ) / 2 ^ 1074 < 746 := by
  rw [div_lt_iff₀ (by positivity), ← Nat.cast_lt (α := ℝ), Nat.cast_mul, Nat.cast_pow, Nat.cast_ofNat, Nat.cast_ofNat]

/-- The exponential of `t` from that of `t / 2^16`. -/
theorem exp_eq_pow (u : ℝ) : Real.exp (u / 2 ^ 1074) = Real.exp (u / 2 ^ 1090) ^ 2 ^ 16 := by
  rw [← Real.exp_nat_mul, Nat.cast_pow, Nat.cast_ofNat, show 1090 = 16 + 1074 from rfl, pow_add, ← mul_div_assoc,
    mul_div_mul_left _ _ (by positivity)]

theorem expBounds_fst_le (p u : Nat) : ((expBounds p u).1 : ℝ) ≤ Real.exp ((u : ℝ) / 2 ^ 1074) * 2 ^ p := by
  rw [exp_eq_pow, ← expRest_zero, expBounds]
  refine squareLo_le 16 _ (expRest_nonneg (by positivity) 0) ?_
  refine expSeriesLo_le (by positivity) (cast_div_le_of_le ?_) _ 0 _ (by simp)
  rw [Nat.cast_mul, Nat.cast_pow, Nat.cast_pow, Nat.cast_ofNat, div_mul_eq_mul_div]

theorem le_expBounds_snd (p : Nat) {u : Nat} (hu : u < 746 * 2 ^ 1074) :
    Real.exp ((u : ℝ) / 2 ^ 1074) * 2 ^ p ≤ ((expBounds p u).2 : ℝ) := by
  have hle : (u : ℝ) / 2 ^ 1090 ≤ 1 := by
    rw [show 1090 = 1074 + 16 from rfl, pow_add, ← div_div, div_le_one (by positivity)]
    exact (units_lt_iff.mp hu).le.trans (by norm_num)
  clear hu
  rw [exp_eq_pow, ← expRest_zero, expBounds]
  refine le_squareHi 16 _ (expRest_nonneg (by positivity) 0) ?_
  refine le_expSeriesHi (by positivity) hle (le_cast_div_add_one (by positivity) ?_) _ 0 _ (by omega) (by simp)
  rw [Nat.cast_mul, Nat.cast_pow, Nat.cast_pow, Nat.cast_ofNat, div_mul_eq_mul_div]

theorem expBounds_fst_pos (p u : Nat) : 0 < (expBounds p u).1 :=
  (Nat.two_pow_pos p).trans_le (two_pow_le_squareLo 16 (Nat.le_add_right _ _))

theorem expBounds_snd_pos (p : Nat) {u : Nat} (hu : u < 746 * 2 ^ 1074) : 0 < (expBounds p u).2 := by
  rw [← Nat.cast_pos (α := ℝ)]
  exact lt_of_lt_of_le (by positivity) (le_expBounds_snd p hu)

/-- The two ends round an enclosure of the exponential that is nowhere negative. -/
theorem expEnds_enclose (neg : Bool) (p : Nat) {u : Nat} (hu : u < 746 * 2 ^ 1074) {v : ℝ}
    (hv : v = if neg then -((u : ℝ) / 2 ^ 1074) else (u : ℝ) / 2 ^ 1074) :
    ∃ a b, RoundsTo (expEnds neg u p).1 a ∧ RoundsTo (expEnds neg u p).2 b ∧
      0 ≤ a ∧ a ≤ Real.exp v ∧ Real.exp v ≤ b := by
  have hS : (0 : ℝ) < 2 ^ p := by positivity
  have hlo := expBounds_fst_le p u
  have hhi := le_expBounds_snd p hu
  have hlo₀ := expBounds_fst_pos p u
  have hhi₀ := expBounds_snd_pos p hu
  rw [hv, expEnds]
  clear hu hv
  cases neg
  · have ha := roundsTo_ratio (expBounds p u).1 (Nat.two_pow_pos p)
    have hb := roundsTo_ratio (expBounds p u).2 (Nat.two_pow_pos p)
    rw [Nat.cast_pow, Nat.cast_ofNat] at ha hb
    exact ⟨_, _, ha, hb, by positivity, (div_le_iff₀ hS).mpr hlo, (le_div_iff₀ hS).mpr hhi⟩
  · have ha := roundsTo_ratio (2 ^ p) hhi₀
    have hb := roundsTo_ratio (2 ^ p) hlo₀
    have hexp := Real.exp_pos ((u : ℝ) / 2 ^ 1074)
    rw [Nat.cast_pow, Nat.cast_ofNat] at ha hb
    have hinv : Real.exp (-((u : ℝ) / 2 ^ 1074)) = 1 / Real.exp ((u : ℝ) / 2 ^ 1074) := by
      rw [Real.exp_neg, one_div]
    refine ⟨_, _, ha, hb, by positivity, ?_, ?_⟩
    · rwa [if_pos rfl, hinv, div_le_div_iff₀ (Nat.cast_pos.mpr hhi₀) hexp, one_mul, mul_comm]
    · rwa [if_pos rfl, hinv, div_le_div_iff₀ hexp (Nat.cast_pos.mpr hlo₀), one_mul, mul_comm (2 ^ p)]

/-! ## The default `EXP64` -/

theorem IsValue.eq_ite {x : Word} {v : ℝ} (h : IsValue x v) :
    v = if f64Sign x then -((f64Units x : ℝ) / 2 ^ 1074) else (f64Units x : ℝ) / 2 ^ 1074 := by
  rw [eq_div_of_mul_eq (by positivity) h.eq_signed]
  split
  · rw [neg_div]
  · rfl

/-- `e^746` is beyond the reciprocal of half the smallest positive value. -/
theorem two_pow_le_exp : (2 : ℝ) ^ 1075 ≤ Real.exp 746 := by
  rw [← Real.exp_log two_pos, ← Real.exp_nat_mul]
  refine Real.exp_le_exp.mpr ?_
  have h := Real.log_two_lt_d9
  norm_num
  linarith

/-- The overflow limit is well below the same power. -/
theorem limit_le_two_pow : ((2 : ℝ) ^ 54 - 1) * 2 ^ 970 ≤ 2 ^ 1075 := by
  rw [show 1075 = 105 + 970 from rfl, pow_add]
  exact mul_le_mul_of_nonneg_right (by norm_num) (by positivity)

theorem exp64_of_finite {x : Word} (hf : f64IsFinite x = true) :
    exp64 x = if f64Units x = 0 then f64One
      else if 746 * 2 ^ 1074 ≤ f64Units x then (if f64Sign x then 0#64 else f64Inf)
      else firstAgreement (expEnds (f64Sign x) (f64Units x)) precisions := by
  rw [exp64, f64IsNaN_of_finite hf, f64IsInf_of_finite hf, if_neg Bool.false_ne_true, if_neg Bool.false_ne_true]

theorem exp64_of_large {x : Word} (hf : f64IsFinite x = true) (h : 746 * 2 ^ 1074 ≤ f64Units x) :
    exp64 x = if f64Sign x then 0#64 else f64Inf := by
  have h₀ : f64Units x ≠ 0 := ne_zero_of_lt ((by positivity : 0 < 746 * 2 ^ 1074).trans_le h)
  rw [exp64_of_finite hf, if_neg h₀, if_pos h]

theorem exp64_of_mid {x : Word} (hf : f64IsFinite x = true) (h₀ : f64Units x ≠ 0) (h : f64Units x < 746 * 2 ^ 1074) :
    exp64 x = firstAgreement (expEnds (f64Sign x) (f64Units x)) precisions := by
  rw [exp64_of_finite hf, if_neg h₀, if_neg (not_le.mpr h)]

theorem roundsTo_exp64_of_zero {x : Word} {v : ℝ} (hx : IsValue x v) (h : f64Units x = 0) :
    RoundsTo (exp64 x) (Real.exp v) := by
  rw [exp64_of_finite hx.1, if_pos h, hx.units_eq_zero.mp h, Real.exp_zero]
  exact roundsTo_one

theorem roundsTo_exp64_of_large {x : Word} {v : ℝ} (hx : IsValue x v) (h : 746 * 2 ^ 1074 ≤ f64Units x) :
    RoundsTo (exp64 x) (Real.exp v) := by
  have ht : 746 ≤ (f64Units x : ℝ) / 2 ^ 1074 := not_lt.mp (mt units_lt_iff.mpr (not_lt.mpr h))
  have hexp := two_pow_le_exp.trans (Real.exp_le_exp.mpr ht)
  rw [exp64_of_large hx.1 h, hx.eq_ite]
  split
  · refine roundsTo_zero_of_tiny (Real.exp_pos _).le ?_
    rw [Real.exp_neg, one_div]
    exact inv_anti₀ (by positivity) hexp
  · have hpos := Real.exp_pos ((f64Units x : ℝ) / 2 ^ 1074)
    refine roundsTo_of_inf (by decide) (by decide) ?_ (fun h' => absurd h' hpos.le.not_gt) fun _ => by decide
    rw [abs_of_pos hpos]
    exact limit_le_two_pow.trans hexp

/-- Whatever the working precisions decide, the default `EXP64` rounds a number between 0 and the exponential. -/
theorem exp64_rounds_below {x : Word} {v : ℝ} (hx : IsValue x v) :
    ∃ a, RoundsTo (exp64 x) a ∧ 0 ≤ a ∧ a ≤ Real.exp v := by
  by_cases h₀ : f64Units x = 0
  · exact ⟨_, roundsTo_exp64_of_zero hx h₀, (Real.exp_pos v).le, le_rfl⟩
  rcases le_or_gt (746 * 2 ^ 1074) (f64Units x) with h | h
  · exact ⟨_, roundsTo_exp64_of_large hx h, (Real.exp_pos v).le, le_rfl⟩
  · rw [exp64_of_mid hx.1 h₀ h]
    obtain ⟨p, -, hp⟩ := firstAgreement_cases (expEnds (f64Sign x) (f64Units x)) precisions
    obtain ⟨a, -, ha, -, ha₀, hle, -⟩ := expEnds_enclose (f64Sign x) p h hx.eq_ite
    exact ⟨a, hp ▸ ha, ha₀, hle⟩

/-- Where a working precision decides, the default `EXP64` is correctly rounded. -/
theorem roundsTo_exp64 {x : Word} {v : ℝ} (hx : IsValue x v)
    (hdec : f64Units x ≠ 0 → f64Units x < 746 * 2 ^ 1074 → ExpDecided x) : RoundsTo (exp64 x) (Real.exp v) := by
  by_cases h₀ : f64Units x = 0
  · exact roundsTo_exp64_of_zero hx h₀
  rcases le_or_gt (746 * 2 ^ 1074) (f64Units x) with h | h
  · exact roundsTo_exp64_of_large hx h
  · rw [exp64_of_mid hx.1 h₀ h]
    refine roundsTo_firstAgreement (fun p _ => ?_) (hdec h₀ h)
    obtain ⟨a, b, ha, hb, -, hle, hge⟩ := expEnds_enclose (f64Sign x) p h hx.eq_ite
    exact ⟨a, b, ha, hb, hle, hge⟩

end Sys2Proof.Machine

namespace Sys2Proof.Proofs

open Sys2Proof Sys2Proof.Machine

/-- Settles O26: the series and the squarings are rounded outwards (`expBounds_fst_le`, `le_expBounds_snd`), and what
lies between two ends that round alike rounds as they do (`RoundsTo.of_between`). -/
theorem expBoundsEncloseTheExponential : Obligations.ExpBoundsEncloseTheExponential :=
  ⟨fun p u _ hu => ⟨expBounds_fst_le p u, le_expBounds_snd p hu⟩, fun _ _ hx hdec => roundsTo_exp64 hx hdec⟩

end Sys2Proof.Proofs
end

section
/-! `LN64` (R14): the bounds enclose the logarithm because each power and each term of the `artanh` series is rounded
outwards. -/

namespace Sys2Proof.Machine

/-! ## The rest of the series -/

/-- What the terms of the series `artanh z = z + z^3/3 + ...` from number `k` on add up to. -/
noncomputable def artanhRest (z : ℝ) (k : Nat) : ℝ :=
  1 / 2 * Real.log ((1 + z) / (1 - z)) - ∑ i ∈ Finset.range k, z ^ (2 * i + 1) / (2 * i + 1)

theorem two_mul_artanhRest_zero (z : ℝ) : 2 * artanhRest z 0 = Real.log ((1 + z) / (1 - z)) := by
  rw [artanhRest, Finset.range_zero, Finset.sum_empty]
  ring

theorem artanhRest_eq_add (z : ℝ) (k : Nat) :
    artanhRest z k = z ^ (2 * k + 1) / (2 * k + 1) + artanhRest z (k + 1) := by
  rw [artanhRest, artanhRest, Finset.sum_range_succ]
  ring

theorem artanhRest_nonneg {z : ℝ} (hz : 0 ≤ z) (hz₁ : z < 1) (k : Nat) : 0 ≤ artanhRest z k :=
  sub_nonneg.mpr (Real.sum_range_le_log_div hz hz₁ k)

/-- Up to 1/3 the rest is at most twice the power of its first term. -/
theorem artanhRest_le {z : ℝ} (hz : 0 ≤ z) (hz₁ : z ≤ 1 / 3) (k : Nat) : artanhRest z k ≤ 2 * z ^ (2 * k + 1) := by
  have hsq : 1 / 2 ≤ 1 - z ^ 2 := by nlinarith
  calc artanhRest z k ≤ z ^ (2 * k + 1) / (1 - z ^ 2) :=
        sub_le_iff_le_add'.mpr (Real.log_div_le_sum_range_add hz (by linarith) k)
    _ ≤ 2 * z ^ (2 * k + 1) := by
        rw [div_le_iff₀ (by linarith)]
        nlinarith [pow_nonneg hz (2 * k + 1)]

theorem artanhLo_le {p q : Nat} {z : ℝ} (hz : 0 ≤ z) (hz₁ : z < 1) (hq : (q : ℝ) ≤ z ^ 2 * 2 ^ p) (n k t : Nat)
    (ht : (t : ℝ) ≤ z ^ (2 * k + 1) * 2 ^ p) : (artanhLo p q n k t : ℝ) ≤ artanhRest z k * 2 ^ p := by
  have hS : (0 : ℝ) < 2 ^ p := by positivity
  induction n generalizing k t with
  | zero => simpa [artanhLo] using mul_nonneg (artanhRest_nonneg hz hz₁ k) hS.le
  | succ n ih =>
    rw [artanhLo, artanhRest_eq_add, Nat.cast_add, add_mul (_ / _)]
    refine add_le_add (cast_div_le_of_le ?_) (ih (k + 1) _ ?_)
    · push_cast
      rw [div_mul_eq_mul_div]
      gcongr
    · rw [show 2 * (k + 1) + 1 = 2 * k + 1 + 2 by ring, pow_add]
      exact fixedMul_le (by positivity) ht hq

theorem le_artanhHi {p q : Nat} {z : ℝ} (hz : 0 ≤ z) (hz₁ : z ≤ 1 / 3) (hq : z ^ 2 * 2 ^ p ≤ q) (n k t : Nat)
    (ht : z ^ (2 * k + 1) * 2 ^ p ≤ t) : artanhRest z k * 2 ^ p ≤ (artanhHi p q n k t : ℝ) := by
  have hS : (0 : ℝ) < 2 ^ p := by positivity
  induction n generalizing k t with
  | zero =>
    rw [artanhHi, Nat.cast_mul, Nat.cast_ofNat]
    have hrest := mul_le_mul_of_nonneg_right (artanhRest_le hz hz₁ k) hS.le
    linarith
  | succ n ih =>
    rw [artanhHi, artanhRest_eq_add, Nat.cast_add, add_mul (_ / _)]
    refine add_le_add (le_cast_div_add_one (by omega) ?_) (ih (k + 1) _ ?_)
    · push_cast
      rw [div_mul_eq_mul_div]
      gcongr
    · rw [show 2 * (k + 1) + 1 = 2 * k + 1 + 2 by ring, pow_add]
      exact le_fixedMul (by positivity) ht hq

/-! ## The enclosure -/

theorem twiceArtanh_enclose (p : Nat) {a b : Nat} (hb : 0 < b) (hab : 3 * a ≤ b) :
    ((twiceArtanh p a b).1 : ℝ) ≤ Real.log ((b + a) / (b - a)) * 2 ^ p ∧
      Real.log ((b + a) / (b - a)) * 2 ^ p ≤ ((twiceArtanh p a b).2 : ℝ) := by
  have hb' : (0 : ℝ) < b := Nat.cast_pos.mpr hb
  have hz : (0 : ℝ) ≤ a / b := by positivity
  have hz₁ : (a : ℝ) / b ≤ 1 / 3 := by
    rw [div_le_div_iff₀ hb' three_pos]
    exact_mod_cast (by omega : a * 3 ≤ 1 * b)
  have hlog : ((b : ℝ) + a) / (b - a) = (1 + a / b) / (1 - a / b) := by field_simp
  have hlo : ((a * 2 ^ p / b : Nat) : ℝ) ≤ a / b * 2 ^ p := cast_div_le_of_le (by push_cast; rw [div_mul_eq_mul_div])
  have hhi : (a : ℝ) / b * 2 ^ p ≤ ((a * 2 ^ p / b + 1 : Nat) : ℝ) :=
    le_cast_div_add_one hb (by push_cast; rw [div_mul_eq_mul_div])
  rw [hlog, ← two_mul_artanhRest_zero, mul_assoc, twiceArtanh, Nat.cast_mul, Nat.cast_mul, Nat.cast_ofNat]
  constructor
  · have hsq := (fixedMul_le hz hlo hlo).trans_eq (by rw [← sq])
    exact mul_le_mul_of_nonneg_left (artanhLo_le hz (by linarith) hsq _ 0 _ (by simpa using hlo)) two_pos.le
  · have hsq := (by rw [sq] : ((a : ℝ) / b) ^ 2 * 2 ^ p = _).trans_le (le_fixedMul hz hhi hhi)
    exact mul_le_mul_of_nonneg_left (le_artanhHi hz hz₁ hsq _ 0 _ (by simpa using hhi)) two_pos.le

/-- The bounds of `ln 2`. -/
theorem twiceArtanh_ln_two (p : Nat) :
    ((twiceArtanh p 1 3).1 : ℝ) ≤ Real.log 2 * 2 ^ p ∧ Real.log 2 * 2 ^ p ≤ ((twiceArtanh p 1 3).2 : ℝ) := by
  have h := twiceArtanh_enclose p three_pos (a := 1) (by decide)
  rwa [show ((3 : Nat) + (1 : Nat) : ℝ) / ((3 : Nat) - (1 : Nat)) = 2 by norm_num] at h

/-- The bounds of the logarithm of the significand `u / 2^l`. -/
theorem twiceArtanh_significand (p : Nat) {u : Nat} (hu : 0 < u) :
    ((twiceArtanh p (u - 2 ^ Nat.log2 u) (u + 2 ^ Nat.log2 u)).1 : ℝ) ≤ Real.log (u / 2 ^ Nat.log2 u) * 2 ^ p ∧
      Real.log (u / 2 ^ Nat.log2 u) * 2 ^ p ≤
        ((twiceArtanh p (u - 2 ^ Nat.log2 u) (u + 2 ^ Nat.log2 u)).2 : ℝ) := by
  have hle : 2 ^ Nat.log2 u ≤ u := Nat.log2_self_le hu.ne'
  have hlt : u < 2 * 2 ^ Nat.log2 u := by rw [← pow_succ']; exact Nat.lt_log2_self
  have h := twiceArtanh_enclose p (a := u - 2 ^ Nat.log2 u) (b := u + 2 ^ Nat.log2 u) (by omega) (by omega)
  have hratio : (((u + 2 ^ Nat.log2 u : Nat) : ℝ) + ((u - 2 ^ Nat.log2 u : Nat) : ℝ)) /
      (((u + 2 ^ Nat.log2 u : Nat) : ℝ) - ((u - 2 ^ Nat.log2 u : Nat) : ℝ)) = u / 2 ^ Nat.log2 u := by
    rw [Nat.cast_sub hle, Nat.cast_add, Nat.cast_pow, Nat.cast_ofNat, add_add_sub_cancel, add_sub_sub_cancel,
      ← two_mul, ← two_mul, mul_div_mul_left _ _ two_ne_zero]
  rwa [hratio] at h

/-- The logarithm from the significand and the place of the leading bit. -/
theorem log_units_eq {u : Nat} (hu : 0 < u) :
    Real.log ((u : ℝ) / 2 ^ 1074) =
      Real.log (u / 2 ^ Nat.log2 u) + ((Nat.log2 u : ℝ) - 1074) * Real.log 2 := by
  have hu' : (u : ℝ) ≠ 0 := Nat.cast_ne_zero.mpr hu.ne'
  rw [Real.log_div hu' (by positivity), Real.log_div hu' (by positivity), Real.log_pow, Real.log_pow]
  push_cast
  ring

theorem lnBounds_enclose (p : Nat) {u : Nat} (hu : 0 < u) :
    ((lnBounds p u).1 : ℝ) ≤ Real.log ((u : ℝ) / 2 ^ 1074) * 2 ^ p ∧
      Real.log ((u : ℝ) / 2 ^ 1074) * 2 ^ p ≤ ((lnBounds p u).2 : ℝ) := by
  obtain ⟨hlo, hhi⟩ := twiceArtanh_significand p hu
  obtain ⟨hlo₂, hhi₂⟩ := twiceArtanh_ln_two p
  rw [log_units_eq hu, add_mul, mul_assoc, lnBounds]
  split
  next h =>
    have hk : (Nat.log2 u : ℝ) - 1074 = ((Nat.log2 u - 1074 : Nat) : ℝ) := by
      rw [Nat.cast_sub h, Nat.cast_ofNat]
    rw [hk]
    generalize Nat.log2 u - 1074 = k
    push_cast
    exact ⟨add_le_add hlo (mul_le_mul_of_nonneg_left hlo₂ k.cast_nonneg),
      add_le_add hhi (mul_le_mul_of_nonneg_left hhi₂ k.cast_nonneg)⟩
  next h =>
    have hk : (Nat.log2 u : ℝ) - 1074 = -((1074 - Nat.log2 u : Nat) : ℝ) := by
      rw [Nat.cast_sub (not_le.mp h).le, Nat.cast_ofNat, neg_sub]
    rw [hk, neg_mul, ← sub_eq_add_neg]
    generalize 1074 - Nat.log2 u = k
    push_cast
    exact ⟨sub_le_sub hlo (mul_le_mul_of_nonneg_left hhi₂ k.cast_nonneg),
      sub_le_sub hhi (mul_le_mul_of_nonneg_left hlo₂ k.cast_nonneg)⟩

theorem roundsTo_roundFixed (p : Nat) (v : Int) : RoundsTo (roundFixed p v) ((v : ℝ) / 2 ^ p) := by
  have hS : (0 : ℝ) < 2 ^ p := by positivity
  refine roundsTo_pack (Nat.two_pow_pos p) ?_ (fun h => ?_) fun h => ?_
  · rw [Nat.cast_mul, Nat.cast_pow, Nat.cast_pow, Nat.cast_ofNat, Nat.cast_natAbs, Int.cast_abs, abs_div,
      abs_of_pos hS, mul_right_comm, div_mul_cancel₀ _ hS.ne']
  · exact decide_eq_true (by rwa [div_lt_iff₀ hS, zero_mul, Int.cast_lt_zero] at h)
  · exact decide_eq_false (by rw [div_pos_iff_of_pos_right hS, Int.cast_pos] at h; exact h.le.not_gt)

/-- The two ends round an enclosure of the logarithm. -/
theorem lnEnds_enclose (p : Nat) {u : Nat} (hu : 0 < u) :
    ∃ a b, RoundsTo (lnEnds u p).1 a ∧ RoundsTo (lnEnds u p).2 b ∧
      a ≤ Real.log ((u : ℝ) / 2 ^ 1074) ∧ Real.log ((u : ℝ) / 2 ^ 1074) ≤ b := by
  have hS : (0 : ℝ) < 2 ^ p := by positivity
  obtain ⟨hlo, hhi⟩ := lnBounds_enclose p hu
  exact ⟨_, _, roundsTo_roundFixed p _, roundsTo_roundFixed p _, (div_le_iff₀ hS).mpr hlo, (le_div_iff₀ hS).mpr hhi⟩

/-! ## The default `LN64` -/

theorem IsValue.units_of_pos {x : Word} {v : ℝ} (h : IsValue x v) (hv : 0 < v) :
    0 < f64Units x ∧ v = (f64Units x : ℝ) / 2 ^ 1074 := by
  refine ⟨Nat.pos_of_ne_zero (mt h.units_eq_zero.mp hv.ne'), ?_⟩
  have heq := h.eq_ite
  rwa [h.sign_of_pos hv] at heq

/-- Positive values are equal only for equal patterns. -/
theorem IsValue.inj_of_pos {x y : Word} {v : ℝ} (hx : IsValue x v) (hy : IsValue y v) (hv : 0 < v) : x = y := by
  refine word_eq_of_sign_mag (by rw [hx.sign_of_pos hv, hy.sign_of_pos hv]) (magUnits_strictMono.injective ?_)
  rw [← f64Units_eq, ← f64Units_eq, ← Nat.cast_inj (R := ℝ), ← hx.abs_mul_eq, ← hy.abs_mul_eq]

theorem ln64_of_pos {x : Word} {v : ℝ} (hx : IsValue x v) (hv : 0 < v) :
    ln64 x = if x = f64One then 0#64 else firstAgreement (lnEnds (f64Units x)) precisions := by
  have h₀ : ¬(f64Exp x = 0 ∧ f64Frac x = 0) := fun h =>
    (hx.units_of_pos hv).1.ne' (by rw [f64Units, if_pos h.1, h.2])
  rw [ln64, f64IsNaN_of_finite hx.1, f64IsInf_of_finite hx.1, hx.sign_of_pos hv, if_neg h₀]
  simp only [Bool.false_eq_true, if_false]

/-- Where a working precision decides, the default `LN64` is correctly rounded. -/
theorem roundsTo_ln64 {x : Word} {v : ℝ} (hx : IsValue x v) (hv : 0 < v) (hdec : v ≠ 1 → LnDecided x) :
    RoundsTo (ln64 x) (Real.log v) := by
  rw [ln64_of_pos hx hv]
  by_cases h : x = f64One
  · subst h
    rw [if_pos rfl, hx.unique isValue_one, Real.log_one]
    exact roundsTo_zero
  · have hne : v ≠ 1 := fun h₁ => h (hx.inj_of_pos (h₁ ▸ isValue_one) hv)
    obtain ⟨hu, hval⟩ := hx.units_of_pos hv
    rw [if_neg h, hval]
    exact roundsTo_firstAgreement (fun p _ => lnEnds_enclose p hu) (hdec hne)

end Sys2Proof.Machine

namespace Sys2Proof.Proofs

open Sys2Proof Sys2Proof.Machine

/-- Settles O27: the powers and the terms of the series are rounded outwards (`twiceArtanh_enclose`), for the
significand and for `ln 2`, and what lies between two ends that round alike rounds as they do
(`RoundsTo.of_between`). -/
theorem lnBoundsEncloseTheLogarithm : Obligations.LnBoundsEncloseTheLogarithm :=
  ⟨fun p _ _ hu => lnBounds_enclose p hu, fun _ _ hx hv hdec => roundsTo_ln64 hx hv hdec⟩

end Sys2Proof.Proofs
end

section
/-! The properties R14 lets the rules assume, for the default functions: they need no precision to decide, since the
lower end of an enclosure already has the sign and the size. -/

namespace Sys2Proof.Machine

/-! ## The size of the bounds of the logarithm -/

/-- Where the square of the argument is at most 1/2, the powers halve at each term, up to the units of rounding. -/
theorem artanhHi_le {p q : Nat} (hq : 2 * q ≤ 2 ^ p) (n k t : Nat) : artanhHi p q n k t ≤ 2 * t + 4 * n := by
  induction n generalizing k t with
  | zero => exact (Nat.add_zero _).ge
  | succ n ih =>
    have hterm : t / (2 * k + 1) ≤ t := Nat.div_le_self _ _
    have hpow : 2 * (t * q / 2 ^ p) ≤ t := by
      refine (Nat.mul_div_le_mul_div_assoc 2 (t * q) (2 ^ p)).trans (Nat.div_le_of_le_mul ?_)
      calc 2 * (t * q) = 2 * q * t := by ring
        _ ≤ 2 ^ p * t := Nat.mul_le_mul_right t hq
    have hrest := ih (k + 1) (t * q / 2 ^ p + 1)
    rw [artanhHi]
    omega

/-- The upper bound of `ln 2` is at most 6. -/
theorem twiceArtanh_ln_two_le {p : Nat} (hp : 8 ≤ p) : (twiceArtanh p 1 3).2 ≤ 6 * 2 ^ p := by
  have hP : 2 ^ 8 ≤ 2 ^ p := Nat.pow_le_pow_right two_pos hp
  have hpP : p < 2 ^ p := Nat.lt_two_pow_self
  have hz : 2 * (1 * 2 ^ p / 3 + 1) ≤ 2 ^ p := by omega
  rw [twiceArtanh]
  generalize hzdef : 1 * 2 ^ p / 3 + 1 = z at hz ⊢
  have hsq : z * z / 2 ^ p ≤ z / 2 := by
    rw [← Nat.mul_div_mul_right z 2 (by omega : 0 < z)]
    exact Nat.div_le_div_left hz (by omega)
  have h := artanhHi_le (p := p) (q := z * z / 2 ^ p + 1) (by omega) (p / 3 + 4) 0 z
  omega

theorem lnBounds_fst_ge {p : Nat} (hp : 8 ≤ p) (u : Nat) : -(6444 * 2 ^ p : Int) ≤ (lnBounds p u).1 := by
  have hln2 : ((twiceArtanh p 1 3).2 : Int) ≤ 6 * 2 ^ p := by exact_mod_cast twiceArtanh_ln_two_le hp
  rw [lnBounds]
  split
  next =>
    refine (neg_nonpos.mpr (by positivity)).trans (add_nonneg (Int.natCast_nonneg _) ?_)
    exact mul_nonneg (Int.natCast_nonneg _) (Int.natCast_nonneg _)
  next =>
    have hk : ((1074 - Nat.log2 u : Nat) : Int) * (twiceArtanh p 1 3).2 ≤ 1074 * (6 * 2 ^ p) :=
      mul_le_mul (by omega) hln2 (by positivity) (by decide)
    have hm : (0 : Int) ≤ (twiceArtanh p (u - 2 ^ Nat.log2 u) (u + 2 ^ Nat.log2 u)).1 := by positivity
    linarith

/-- Whatever the working precisions decide, the default `LN64` rounds a number that is at most the logarithm, and not
far below 0. -/
theorem ln64_rounds_below {x : Word} {v : ℝ} (hx : IsValue x v) (hv : 0 < v) (hne : v ≠ 1) :
    ∃ a, RoundsTo (ln64 x) a ∧ -6444 ≤ a ∧ a ≤ Real.log v := by
  obtain ⟨hu, hval⟩ := hx.units_of_pos hv
  have hx₁ : x ≠ f64One := fun h => hne (hx.unique (h ▸ isValue_one))
  obtain ⟨p, hp, hres⟩ := firstAgreement_cases (lnEnds (f64Units x)) precisions
  have hp₈ : 8 ≤ p := (show ∀ p ∈ 5120 :: precisions, 8 ≤ p by decide) p hp
  have hS : (0 : ℝ) < 2 ^ p := by positivity
  rw [ln64_of_pos hx hv, if_neg hx₁, hres, hval]
  refine ⟨_, roundsTo_roundFixed p _, ?_, (div_le_iff₀ hS).mpr (lnBounds_enclose p hu).1⟩
  rw [le_div_iff₀ hS, neg_mul]
  exact_mod_cast lnBounds_fst_ge hp₈ (f64Units x)

/-! ## The properties -/

theorem ln64_nonpos {x : Word} {v : ℝ} (hx : IsValue x v) (hv : 0 < v) (hv₁ : v < 1) :
    f64IsFinite (ln64 x) = true ∧ fle (ln64 x) 0#64 = true := by
  obtain ⟨a, ha, hlo, hhi⟩ := ln64_rounds_below hx hv hv₁.ne
  have ha₀ : a ≤ 0 := hhi.trans (Real.log_nonpos hv.le hv₁.le)
  have hfin := ha.isFinite (lt_limit (by rw [abs_of_nonpos ha₀]; linarith))
  have hval := isValue_of_finite hfin
  exact ⟨hfin, (hval.fle_iff isValue_zero).mpr (ha.le_of_le hval isValue_zero ha₀)⟩

theorem exp64_mem_unit {x : Word} {v : ℝ} (hx : IsValue x v) (hv : v ≤ 0) :
    f64IsFinite (exp64 x) = true ∧ fle 0#64 (exp64 x) = true ∧ fle (exp64 x) f64One = true := by
  obtain ⟨a, ha, ha₀, hle⟩ := exp64_rounds_below hx
  have ha₁ : a ≤ 1 := hle.trans (Real.exp_le_one_iff.mpr hv)
  have hfin := ha.isFinite (lt_limit (by rw [abs_of_nonneg ha₀]; linarith))
  have hval := isValue_of_finite hfin
  exact ⟨hfin, (isValue_zero.fle_iff hval).mpr (ha.ge_of_ge hval isValue_zero ha₀),
    (hval.fle_iff isValue_one).mpr (ha.le_of_le hval isValue_one ha₁)⟩

end Sys2Proof.Machine

namespace Sys2Proof.Proofs

open Sys2Proof Sys2Proof.Machine

/-- Settles O28: both functions round a number whose sign and size are known (`ln64_rounds_below`,
`exp64_rounds_below`), and rounding keeps the order with 0 and 1. -/
theorem defaultFunctionsAreLawful : Obligations.DefaultFunctionsAreLawful where
  ln_zero := by decide
  ln_nonpos u hu hpos hlt := by
    have hval := isValue_of_finite hu
    exact ln64_nonpos hval ((isValue_zero.flt_iff hval).mp hpos) ((hval.flt_iff isValue_one).mp hlt)
  exp_unit x hx hle := by
    have hval := isValue_of_finite hx
    exact exp64_mem_unit hval ((hval.fle_iff isValue_zero).mp hle)
  exp_zero := by decide
  exp_negZero := by decide

end Sys2Proof.Proofs
end

section
/-! The state right after a hardware reset (R32, R230). -/

namespace Sys2Proof.Machine

/-- `State.reset` is one of the states a hardware reset allows. -/
theorem reset_hardwareReset : HardwareReset State.reset := ⟨0#128, 0#64, 0#3, [], rfl⟩

/-- Before the first seed the leftover buffer may hold anything (R32). -/
theorem leftoverCanonical_of_unseeded {s : State} (h : s.SEEDED = false) : LeftoverCanonical s :=
  fun hs => absurd (h.symm.trans hs) Bool.false_ne_true

end Sys2Proof.Machine

namespace Sys2Proof.Proofs

open Sys2Proof Sys2Proof.Machine

/-- Settles O7: both read off the definition of a hardware reset; the invariant asks nothing of an unseeded buffer and the
empty RAM has the canonical form. -/
theorem resetIsUnseededAndEmpty : Obligations.ResetIsUnseededAndEmpty := by
  refine ⟨?_, reset_hardwareReset, leftoverCanonical_of_unseeded rfl, reset_scratchWf⟩
  rintro t ⟨e, v, c, p, rfl⟩
  exact ⟨rfl, rfl, rfl, rfl⟩

end Sys2Proof.Proofs
end

section
/-! Everything a command can do to the state, whatever the parameters, said once; and from it, who writes `SEEDED`, `RDV`,
`RDC`, `P`, `DIN` and `S` (R22, R23, R27, R46, R66, R174, R182). -/

namespace Sys2Proof.Machine

/-! ## The state that `PERM` leaves -/

@[simp] theorem permState_S (n : Nat) (r : PermResult Engine) (s : State) : (permState n r s).S = r.source := rfl
@[simp] theorem permState_RDV (n : Nat) (r : PermResult Engine) (s : State) : (permState n r s).RDV = s.RDV := rfl
@[simp] theorem permState_RDC (n : Nat) (r : PermResult Engine) (s : State) : (permState n r s).RDC = s.RDC := rfl
@[simp] theorem permState_SEEDED (n : Nat) (r : PermResult Engine) (s : State) :
    (permState n r s).SEEDED = s.SEEDED := rfl
@[simp] theorem permState_P (n : Nat) (r : PermResult Engine) (s : State) : (permState n r s).P = r.ram := rfl
@[simp] theorem permState_CMD (n : Nat) (r : PermResult Engine) (s : State) : (permState n r s).CMD = s.CMD.tail := rfl
@[simp] theorem permState_DIN (n : Nat) (r : PermResult Engine) (s : State) : (permState n r s).DIN = s.DIN := rfl
@[simp] theorem permState_OUT (n : Nat) (r : PermResult Engine) (s : State) :
    (permState n r s).OUT = s.OUT ++ r.values.map .vout ++ [.rsp ⟨.ok, word n⟩] := rfl

/-! ## What a command does when it goes on -/

/-- The commands whose only success is to draw a value from the engine (R85, R91 to R94, R103 to R107, R116, R117, R130,
R135). -/
def drawsAValue : Instr → Bool
  | .u64 _ | .u32 _ | .i63 _ | .i31 _ | .int _ => true
  | .u64n _ | .i63n _ | .u32n _ | .i31n _ | .intn _ => true
  | .f64 _ | .f32 _ | .norm _ | .exp _ => true
  | .seed _ | .zrom _ | .perm _ | .shuf _ | .read _ | .marshal _ | .unmarshal _ => false

/-- The ways in which a command can lead from one state to the next, under the parameters `par`: it ends in an error with
nothing else changed (R211), it draws a value, or it has an effect of its own. -/
inductive CommandEffect (par : Parameters) : Instr → State → State → Prop where
  | error {i : Instr} {s : State} (e : Status) : CommandEffect par i s (s.afterError e)
  | draw {i : Instr} {s : State} (hi : drawsAValue i = true) (e : Engine) (r : Word) :
      CommandEffect par i s (s.afterDraws e r)
  | seed {a : Word} {s : State} :
      CommandEffect par (.seed a) s ((((s.setS (a ++ a)).setLeftover 0#64 0#3).markSeeded).respond .ok 0#64)
  | zrom {a : Word} {s : State} (r : Word) : CommandEffect par (.zrom a) s (s.respond .ok r)
  | perm {a : Word} {s : State} (n : Nat) (r : PermResult Engine) (hn : n ≤ par.permMax)
      (hr : permRun par.permMax par.step n s.P s.S = .ok r) : CommandEffect par (.perm a) s (permState n r s)
  | shuf {a : Word} {s : State} (e : Engine) (items : List OutItem) (r : Word) :
      CommandEffect par (.shuf a) s (((s.setS e).emit items).respond .ok r)
  | read {a : Word} {s : State} (n : Nat) (items : List OutItem) (r : Word) :
      CommandEffect par (.read a) s
        (((s.setBuffer (readBytes par.step n s.byteBuffer).2).emit items).respond .ok r)
  | marshal {a : Word} {s : State} (items : List OutItem) (r : Word) :
      CommandEffect par (.marshal a) s ((s.emit items).respond .ok r)
  | unmarshalWaits {a : Word} {s : State} : CommandEffect par (.unmarshal a) s s
  | unmarshalRestores {a : Word} {s : State} (x : Snapshot) (b : List Byte)
      (hx : parseSnapshot par.snapVer b = some x) :
      CommandEffect par (.unmarshal a) s (((s.dropDin a.toNat).restore x).respond .ok 0#64)
  | unmarshalRefuses {a : Word} {s : State} (e : Status) :
      CommandEffect par (.unmarshal a) s ((s.dropDin a.toNat).afterError e)

section

variable {par : Parameters} {i : Instr} {s t : State}

theorem drawCommand_effect {d : Nat × Engine} (hi : drawsAValue i = true)
    (h : withSeed s (answerDraw d s) = .next t) : CommandEffect par i s t := by
  rcases drawCommand_next h with ⟨-, rfl⟩ | ⟨-, rfl⟩
  · exact .error _
  · exact .draw hi _ _

theorem boundedCommand_effect {n : Int} {W : Nat} {draw : Engine → Nat × Engine} (hi : drawsAValue i = true)
    (h : boundedCommand n W draw s = .next t) : CommandEffect par i s t := by
  rcases boundedCommand_next h with ⟨-, rfl⟩ | ⟨-, -, rfl⟩ | ⟨-, -, v, e, -, rfl⟩
  · exact .error _
  · exact .error _
  · exact .draw hi _ _

theorem sampleCommand_effect {d : Option (Word × Engine)} (hi : drawsAValue i = true)
    (h : withSeed s (answerSample d s) = .next t) : CommandEffect par i s t := by
  rcases sampleCommand_next h with ⟨-, rfl⟩ | ⟨-, r, e, -, rfl⟩
  · exact .error _
  · exact .draw hi _ _

theorem execZrom_effect {a : Word} (h : execZrom a s = .next t) : CommandEffect par (.zrom a) s t := by
  rw [execZrom_eq] at h
  split at h
  · cases h; exact .zrom _
  · cases h; exact .error _

theorem permWith_effect {a : Word} (h : permWith par a s = .next t) : CommandEffect par (.perm a) s t := by
  rcases permWith_next h with ⟨-, rfl⟩ | ⟨-, -, rfl⟩ | ⟨-, -, -, rfl⟩ | ⟨-, -, hle, r, hr, rfl⟩
  · exact .error _
  · exact .error _
  · exact .error _
  · exact .perm _ r (by omega) hr

theorem shufWith_effect {a : Word} (h : shufWith par a s = .next t) : CommandEffect par (.shuf a) s t := by
  rcases shufWith_next h with ⟨-, rfl⟩ | ⟨-, -, rfl⟩ | ⟨-, -, swaps, e, -, rfl⟩
  · exact .error _
  · exact .error _
  · exact .shuf _ _ _

theorem readWith_effect {a : Word} (h : readWith par a s = .next t) : CommandEffect par (.read a) s t := by
  rcases readWith_next h with ⟨-, rfl⟩ | ⟨-, -, rfl⟩ | ⟨-, -, rfl⟩
  · exact .error _
  · exact .error _
  · exact .read _ _ _

theorem marshalWith_effect {a : Word} (h : marshalWith par a s = .next t) : CommandEffect par (.marshal a) s t := by
  rcases marshalWith_next h with ⟨-, rfl⟩ | ⟨-, rfl⟩
  · exact .error _
  · exact .marshal _ _

theorem unmarshalWith_effect {a : Word} (h : unmarshalWith par a s = .next t) :
    CommandEffect par (.unmarshal a) s t := by
  rcases unmarshalWith_next h with ⟨-, rfl⟩ | ⟨-, x, hx, rfl⟩ | ⟨-, -, rfl⟩
  · exact .unmarshalWaits
  · exact .unmarshalRestores x _ hx
  · exact .unmarshalRefuses _

/-- A command that goes on has one of the effects listed. -/
theorem execWith_effect (h : execWith par i s = .next t) : CommandEffect par i s t := by
  cases i with
  | seed a => cases h; exact .seed
  | u64 a => exact drawCommand_effect rfl h
  | u32 a => exact drawCommand_effect rfl h
  | i63 a => exact drawCommand_effect rfl h
  | i31 a => exact drawCommand_effect rfl h
  | int a => exact drawCommand_effect rfl h
  | u64n a => exact boundedCommand_effect rfl h
  | i63n a => exact boundedCommand_effect rfl h
  | u32n a => exact boundedCommand_effect rfl h
  | i31n a => exact boundedCommand_effect rfl h
  | intn a => exact boundedCommand_effect rfl h
  | f64 a => exact drawCommand_effect rfl h
  | f32 a => exact drawCommand_effect rfl h
  | norm a => exact sampleCommand_effect rfl h
  | exp a => exact sampleCommand_effect rfl h
  | zrom a => exact execZrom_effect h
  | perm a => exact permWith_effect h
  | shuf a => exact shufWith_effect h
  | read a => exact readWith_effect h
  | marshal a => exact marshalWith_effect h
  | unmarshal a => exact unmarshalWith_effect h

/-! ## Who writes what -/

/-- `SEEDED` is set by `SEED` and a successful `UNMARSHAL`, and otherwise stays (R23, R27). -/
theorem CommandEffect.SEEDED_eq (h : CommandEffect par i s t) :
    t.SEEDED = s.SEEDED ∨ (t.SEEDED = true ∧ ∃ a, i = .seed a ∨ i = .unmarshal a) := by
  cases h with
  | seed => exact .inr ⟨rfl, _, .inl rfl⟩
  | unmarshalRestores => exact .inr ⟨rfl, _, .inr rfl⟩
  | _ => exact .inl rfl

/-- The leftover buffer is written by `SEED`, `READ` and `UNMARSHAL` only (R22). -/
theorem CommandEffect.leftover_eq (h : CommandEffect par i s t) (hseed : ∀ a, i ≠ .seed a) (hread : ∀ a, i ≠ .read a)
    (hunm : ∀ a, i ≠ .unmarshal a) : t.RDV = s.RDV ∧ t.RDC = s.RDC := by
  cases h with
  | seed => exact absurd rfl (hseed _)
  | read => exact absurd rfl (hread _)
  | unmarshalRestores => exact absurd rfl (hunm _)
  | _ => exact ⟨rfl, rfl⟩

/-- The scratch RAM is written by `PERM` only (R46). -/
theorem CommandEffect.P_eq (h : CommandEffect par i s t) (hperm : ∀ a, i ≠ .perm a) : t.P = s.P := by
  cases h with
  | perm => exact absurd rfl (hperm _)
  | _ => rfl

/-- Bytes are taken from `DIN` by `UNMARSHAL` only (R66). -/
theorem CommandEffect.DIN_eq (h : CommandEffect par i s t) (hunm : ∀ a, i ≠ .unmarshal a) : t.DIN = s.DIN := by
  cases h with
  | unmarshalRestores => exact absurd rfl (hunm _)
  | unmarshalRefuses => exact absurd rfl (hunm _)
  | _ => rfl

/-- `ZROM` and `MARSHAL` draw nothing (R43, R182). -/
theorem CommandEffect.S_eq (h : CommandEffect par i s t) (hi : ∃ a, i = .zrom a ∨ i = .marshal a) : t.S = s.S := by
  obtain ⟨a, rfl | rfl⟩ := hi
  · cases h with
    | error => rfl
    | draw hi => exact absurd hi Bool.false_ne_true
    | zrom => rfl
  · cases h with
    | error => rfl
    | draw hi => exact absurd hi Bool.false_ne_true
    | marshal => rfl

/-- `exec` is one of the instances, so its effects are among those listed. -/
theorem exec_effect (h : exec i s = .next t) : CommandEffect defaultParameters i s t :=
  execWith_effect (exec_eq_execWith i s ▸ h)

end

end Sys2Proof.Machine

namespace Sys2Proof.Proofs

open Sys2Proof Sys2Proof.Machine

/-- Settles O10: of the effects a command can have, only those of `SEED` and of a restoring `UNMARSHAL` write
`SEEDED`, and they set it. -/
theorem onlySeedAndUnmarshalWriteSeeded : Obligations.OnlySeedAndUnmarshalWriteSeeded := by
  intro i s t h
  rcases (exec_effect h).SEEDED_eq with heq | ⟨hset, hi⟩
  · exact ⟨fun hs => heq.trans hs, fun hs ht => absurd (heq.symm.trans ht) (by simp [hs])⟩
  · exact ⟨fun _ => hset, fun _ _ => hi⟩

/-- Settles O55, register by register, from the effects a command can have. -/
theorem registersHaveTheirWriters : Obligations.RegistersHaveTheirWriters := by
  intro i s t h
  have heff := exec_effect h
  exact ⟨heff.leftover_eq, heff.P_eq, heff.DIN_eq, heff.S_eq⟩

end Sys2Proof.Proofs
end

section
/-! The canonical form of the leftover buffer (R22): the byte loop of `READ` and the checks of `UNMARSHAL` keep it, and
nothing else but `SEED` writes the buffer. -/

namespace Sys2Proof.Machine

/-! ## The byte loop of `READ` -/

/-- Every bit of the working value above the held bytes is zero, and between two bytes at most 7 are held (R22, R171). -/
def ByteBuffer.Canonical {σ : Type} (b : ByteBuffer σ) : Prop := b.value.toNat < 2 ^ (8 * b.count) ∧ b.count ≤ 7

theorem ByteBuffer.refill_of_empty {σ : Type} (next : Source σ) {b : ByteBuffer σ} (h : b.count = 0) :
    b.refill next = { source := (next b.source).2, value := (next b.source).1, count := 8 } := if_pos h

theorem ByteBuffer.refill_of_held {σ : Type} (next : Source σ) {b : ByteBuffer σ} (h : b.count ≠ 0) :
    b.refill next = b := if_neg h

/-- A byte taken from the low end moves the bound down by a byte. -/
theorem toNat_shiftRight_byte_lt {v : Word} {c : Nat} (hc : c ≠ 0) (hv : v.toNat < 2 ^ (8 * c)) :
    (v >>> 8).toNat < 2 ^ (8 * (c - 1)) := by
  rw [BitVec.toNat_ushiftRight, Nat.shiftRight_eq_div_pow]
  apply Nat.div_lt_of_lt_mul
  rwa [← pow_add, show 8 + 8 * (c - 1) = 8 * c by omega]

theorem ByteBuffer.shift_canonical {σ : Type} {b : ByteBuffer σ} (hc : b.count ≠ 0) (hc₈ : b.count ≤ 8)
    (hv : b.value.toNat < 2 ^ (8 * b.count)) : b.shift.Canonical :=
  ⟨toNat_shiftRight_byte_lt hc hv, show b.count - 1 ≤ 7 by omega⟩

/-- One turn of the byte loop keeps the canonical form: a fresh word fills its 8 bytes, and one byte is taken. -/
theorem ByteBuffer.refill_shift_canonical {σ : Type} (next : Source σ) {b : ByteBuffer σ} (h : b.Canonical) :
    (b.refill next).shift.Canonical := by
  obtain ⟨hv, hc⟩ := h
  by_cases h₀ : b.count = 0
  · rw [refill_of_empty next h₀]
    exact shift_canonical (Nat.succ_ne_zero 7) le_rfl (next b.source).1.isLt
  · rw [refill_of_held next h₀]
    exact shift_canonical h₀ (by omega) hv

theorem readBytes_canonical {σ : Type} (next : Source σ) (n : Nat) {b : ByteBuffer σ} (h : b.Canonical) :
    (readBytes next n b).2.Canonical := by
  induction n generalizing b with
  | zero => exact h
  | succ n ih => exact ih (ByteBuffer.refill_shift_canonical next h)

/-! ## The payload of `UNMARSHAL` -/

/-- Little-endian bytes that are zero from byte `c` on stand for a number of `c` bytes. -/
theorem leValue_lt_of_zero_from {bs : List Byte} {c : Nat} (h : ∀ k, c ≤ k → bs.getD k 0#8 = 0#8) :
    leValue bs < 2 ^ (8 * c) := by
  induction bs generalizing c with
  | nil => exact Nat.two_pow_pos _
  | cons b bs ih =>
    have hlow : leValue (b :: bs) = b.toNat + 256 * leValue bs := rfl
    cases c with
    | zero =>
      have hb : b = 0#8 := h 0 le_rfl
      have hbs : leValue bs < 2 ^ (8 * 0) := ih fun k _ => h (k + 1) (Nat.zero_le _)
      subst hb
      simp only [Nat.mul_zero, pow_zero, BitVec.toNat_ofNat] at hlow hbs ⊢
      omega
    | succ c =>
      have hbs : leValue bs < 2 ^ (8 * c) := ih fun k hk => h (k + 1) (Nat.succ_le_succ hk)
      have hb := b.isLt
      rw [show 8 * (c + 1) = 8 * c + 8 by ring, pow_add]
      omega

theorem getD_padding (b : List Byte) (k : Nat) :
    ((b.drop 18).take 7).getD k 0#8 = if k < 7 then payloadByte b (18 + k) else 0#8 := by
  rw [List.getD_eq_getElem?_getD, List.getElem?_take]
  split
  · rw [List.getElem?_drop, payloadByte, List.getD_eq_getElem?_getD]
  · rfl

theorem payloadByte_of_paddingZero {b : List Byte} {c k : Nat} (h : paddingZero b c = true) (hc : c ≤ k) (hk : k < 7) :
    payloadByte b (18 + k) = 0#8 := by
  have hall := List.all_eq_true.mp h k (List.mem_range.mpr hk)
  simpa [Nat.not_lt.mpr hc] using hall

/-- A snapshot that `UNMARSHAL` accepts holds its leftover bytes in canonical form: the padding was checked (R184). -/
theorem parseSnapshot_canonical {ver : Byte} {b : List Byte} {x : Snapshot} (h : parseSnapshot ver b = some x) :
    x.RDV.toNat < 2 ^ (8 * x.RDC.toNat) := by
  obtain ⟨-, -, hc, hpad, rfl⟩ := parseSnapshot_some h
  have hcount : ((payloadByte b 17).setWidth 3).toNat = (payloadByte b 17).toNat := by
    rw [BitVec.toNat_setWidth]
    exact Nat.mod_eq_of_lt (Nat.lt_succ_of_le hc)
  have hvalue : leValue ((b.drop 18).take 7) < 2 ^ (8 * (payloadByte b 17).toNat) := by
    refine leValue_lt_of_zero_from fun k hk => ?_
    rw [getD_padding]
    split
    · exact payloadByte_of_paddingZero hpad hk ‹_›
    · rfl
  simp only [hcount, BitVec.toNat_ofNat]
  exact (Nat.mod_le _ _).trans_lt hvalue

/-! ## The step -/

section

variable {par : Parameters} {i : Instr} {s t : State}

/-- The canonical form rests on `SEEDED`, `RDV` and `RDC` only. -/
theorem LeftoverCanonical.of_eq (h : LeftoverCanonical s) (hs : t.SEEDED = s.SEEDED) (hv : t.RDV = s.RDV)
    (hc : t.RDC = s.RDC) : LeftoverCanonical t := by
  unfold LeftoverCanonical
  rwa [hs, hv, hc]

theorem byteBuffer_canonical (h : s.RDV.toNat < 2 ^ (8 * s.RDC.toNat)) : s.byteBuffer.Canonical :=
  ⟨h, Nat.le_of_lt_succ s.RDC.isLt⟩

/-- Working registers in canonical form leave the state in canonical form: the count fits `RDC` again (R171). -/
theorem setBuffer_canonical {b : ByteBuffer Engine} (h : b.Canonical) : LeftoverCanonical (s.setBuffer b) := by
  obtain ⟨hv, hc⟩ := h
  intro _
  rwa [State.setBuffer_RDV, State.setBuffer_RDC, BitVec.toNat_ofNat, Nat.mod_eq_of_lt (Nat.lt_succ_of_le hc)]

theorem CommandEffect.keeps_leftoverCanonical (h : CommandEffect par i s t) (hs : LeftoverCanonical s) :
    LeftoverCanonical t := by
  cases h with
  | seed => exact fun _ => Nat.two_pow_pos _
  | read n items r =>
    intro hseeded
    exact setBuffer_canonical (readBytes_canonical par.step n (byteBuffer_canonical (hs hseeded))) hseeded
  | unmarshalRestores x b hx => exact fun _ => parseSnapshot_canonical hx
  | _ => exact hs.of_eq rfl rfl rfl

theorem stepWith_keeps_leftoverCanonical (hs : LeftoverCanonical s) (h : stepWith par s = .next t) :
    LeftoverCanonical t := by
  rcases performNext_next h with ⟨-, rfl⟩ | ⟨w, rest, -, ⟨i, -, hi⟩ | ⟨e, -, rfl⟩⟩
  · exact hs
  · exact (execWith_effect hi).keeps_leftoverCanonical hs
  · exact hs.of_eq rfl rfl rfl

end

end Sys2Proof.Machine

namespace Sys2Proof.Proofs

open Sys2Proof Sys2Proof.Machine

/-- Settles O8: of the effects a command can have, `SEED` empties the buffer, the byte loop of `READ` keeps the form at
every turn (`readBytes_canonical`), `UNMARSHAL` checks it (`parseSnapshot_canonical`), and the others leave the buffer
alone. -/
theorem leftoverFormIsKept : Obligations.LeftoverFormIsKept :=
  ⟨fun s _ hs h => stepWith_keeps_leftoverCanonical hs (step_eq_stepWith s ▸ h),
    fun _ _ _ hs h => stepWith_keeps_leftoverCanonical hs h⟩

end Sys2Proof.Proofs
end

section
/-! Two instances in the same state (R33). Behind the seed check they differ in the scratch RAM only, which no command but
`PERM` looks at, and `PERM` reads only the entries that it has written itself. -/

namespace Sys2Proof.Machine

/-! ## A run of `PERM` from two scratch RAMs -/

/-- The entries below `n` are written in both RAMs, with the same values. -/
def AgreeBelow (n : Nat) (p q : List (Nat × Word)) : Prop :=
  ∀ i, i < n → ∃ v, scratchLookup i p = some v ∧ scratchLookup i q = some v

theorem AgreeBelow.mono {m n : Nat} {p q : List (Nat × Word)} (h : AgreeBelow n p q) (hmn : m ≤ n) :
    AgreeBelow m p q := fun i hi => h i (hi.trans_le hmn)

/-- The same write keeps the agreement. -/
theorem AgreeBelow.insert {n : Nat} {p q : List (Nat × Word)} (h : AgreeBelow n p q) (i : Nat) (v : Word) :
    AgreeBelow n (scratchInsert i v p) (scratchInsert i v q) := by
  intro k hk
  rw [scratchLookup_insert, scratchLookup_insert]
  split
  · exact ⟨v, rfl, rfl⟩
  · exact h k hk

/-- The identity fill makes any two RAMs agree (R161). -/
theorem fillIdentity_agree {cap n : Nat} (p q : List (Nat × Word)) (h : n ≤ cap) :
    ∃ p' q', fillIdentity cap n 0 p = .ok p' ∧ fillIdentity cap n 0 q = .ok q' ∧ AgreeBelow n p' q' := by
  obtain ⟨p', hp, hlp, -⟩ := fillIdentity_ok (cap := cap) n 0 p (by omega)
  obtain ⟨q', hq, hlq, -⟩ := fillIdentity_ok (cap := cap) n 0 q (by omega)
  refine ⟨p', q', hp, hq, fun i hi => ⟨word i, ?_, ?_⟩⟩
  · rw [hlp, if_pos (by omega)]
  · rw [hlq, if_pos (by omega)]

/-- The swaps draw the same indices from both RAMs, and exchange entries that agree (R161, R163). -/
theorem permSwaps_agree {σ : Type} {cap n : Nat} (next : Source σ) (i : Nat) {p q : List (Nat × Word)} (s : σ)
    (hn : n ≤ cap) (hi : i < n) (h : AgreeBelow n p q) :
    (permSwaps cap next i p s = .error .never ∧ permSwaps cap next i q s = .error .never) ∨
    ∃ p' q' s', permSwaps cap next i p s = .ok (p', s') ∧ permSwaps cap next i q s = .ok (q', s') ∧
      AgreeBelow n p' q' := by
  induction i generalizing p q s with
  | zero => exact .inr ⟨p, q, s, rfl, rfl, h⟩
  | succ i ih =>
    cases hd : drawIndex next (i + 1) s with
    | none => exact .inl ⟨by simp only [permSwaps, hd], by simp only [permSwaps, hd]⟩
    | some d =>
      obtain ⟨j, s'⟩ := d
      have hj : j ≤ i + 1 := drawIndex_le hd
      obtain ⟨v, hpv, hqv⟩ := h (i + 1) hi
      obtain ⟨w, hpw, hqw⟩ := h j (by omega)
      have hp := swapEntries_ok (cap := cap) (by omega) (by omega) hpv hpw
      have hq := swapEntries_ok (cap := cap) (by omega) (by omega) hqv hqw
      simp only [permSwaps, hd, hp, hq]
      exact ih s' (by omega) ((h.insert (i + 1) w).insert j v)

/-- Entries that agree are streamed out alike (R161). -/
theorem readOut_agree {cap n : Nat} {p q : List (Nat × Word)} (hn : n ≤ cap) (h : AgreeBelow n p q) (m k : Nat)
    (hk : k + m ≤ n) : ∃ vs, readOut cap p m k = .ok vs ∧ readOut cap q m k = .ok vs := by
  induction m generalizing k with
  | zero => exact ⟨[], rfl, rfl⟩
  | succ m ih =>
    obtain ⟨v, hp, hq⟩ := h k (by omega)
    obtain ⟨vs, hvp, hvq⟩ := ih (k + 1) (by omega)
    have hkc : k < cap := by omega
    exact ⟨v :: vs, by simp only [readOut, memRead, if_pos hkc, hp, hvp],
      by simp only [readOut, memRead, if_pos hkc, hq, hvq]⟩

/-- What was in the scratch RAM before has no effect on a run of `PERM`: neither run ends, or both stream out the same
values and leave the same source of words (R46, R161). -/
theorem permRun_agree {σ : Type} {cap n : Nat} (next : Source σ) (p q : List (Nat × Word)) (s : σ) (hn : n ≤ cap) :
    (permRun cap next n p s = .error .never ∧ permRun cap next n q s = .error .never) ∨
    ∃ vs p' q' s', permRun cap next n p s = .ok ⟨vs, p', s'⟩ ∧ permRun cap next n q s = .ok ⟨vs, q', s'⟩ := by
  obtain ⟨p₀, q₀, hp₀, hq₀, h₀⟩ := fillIdentity_agree p q hn
  simp only [permRun, hp₀, hq₀]
  have hswaps : (permSwaps cap next (n - 1) p₀ s = .error .never ∧ permSwaps cap next (n - 1) q₀ s = .error .never) ∨
      ∃ p₁ q₁ s', permSwaps cap next (n - 1) p₀ s = .ok (p₁, s') ∧ permSwaps cap next (n - 1) q₀ s = .ok (q₁, s') ∧
        AgreeBelow n p₁ q₁ := by
    cases n with
    | zero => exact .inr ⟨p₀, q₀, s, rfl, rfl, h₀⟩
    | succ n => exact permSwaps_agree next n s hn n.lt_succ_self h₀
  rcases hswaps with ⟨hp, hq⟩ | ⟨p₁, q₁, s', hp, hq, h₁⟩
  · exact .inl (by simp only [hp, hq, and_self])
  · obtain ⟨vs, hvp, hvq⟩ := readOut_agree hn h₁ n 0 (by omega)
    simp only [hp, hq, hvp, hvq]
    exact .inr ⟨vs, p₁, q₁, s', rfl, rfl⟩

/-! ## Updates of two instances in the same state -/

section

variable {s t : State}

/-- The scratch RAM does not count (R33). -/
theorem sameState_setP (s : State) (p : List (Nat × Word)) : SameState s (s.setP p) :=
  ⟨rfl, fun _ => ⟨rfl, rfl, rfl⟩, rfl, rfl, rfl⟩

/-- Once seeded, two instances in the same state differ in the scratch RAM at most. -/
theorem SameState.eq_setP (h : SameState s t) (hs : s.SEEDED = true) : t = s.setP t.P := by
  obtain ⟨hseeded, hregs, hcmd, hdin, hout⟩ := h
  obtain ⟨hS, hRDC, hRDV⟩ := hregs hs
  cases t
  rw [State.setP, State.mk.injEq]
  exact ⟨hS.symm, hRDV.symm, hRDC.symm, hseeded.symm, rfl, hcmd.symm, hdin.symm, hout.symm⟩

theorem SameState.respond (h : SameState s t) (st : Status) (r : Word) :
    SameState (s.respond st r) (t.respond st r) := by
  obtain ⟨hseeded, hregs, hcmd, hdin, hout⟩ := h
  exact ⟨hseeded, hregs, congrArg List.tail hcmd, hdin, congrArg (· ++ _) hout⟩

theorem SameState.afterError (h : SameState s t) (e : Status) : SameState (s.afterError e) (t.afterError e) :=
  h.respond e 0#64

theorem SameState.dropDin (h : SameState s t) (n : Nat) : SameState (s.dropDin n) (t.dropDin n) := by
  obtain ⟨hseeded, hregs, hcmd, hdin, hout⟩ := h
  exact ⟨hseeded, hregs, hcmd, congrArg (List.drop n) hdin, hout⟩

/-- A snapshot loaded puts its values in place of the registers of both (R184). -/
theorem SameState.restore (h : SameState s t) (x : Snapshot) : SameState (s.restore x) (t.restore x) := by
  obtain ⟨-, -, hcmd, hdin, hout⟩ := h
  exact ⟨rfl, fun _ => ⟨rfl, rfl, rfl⟩, hcmd, hdin, hout⟩

/-! ## The commands -/

/-- Behind the seed check, only instances that differ in the scratch RAM are left to compare (R206). -/
theorem SameState.withSeed (h : SameState s t) {k l : Host.Outcome State Fault Refusal}
    (hkl : ∀ p, t = s.setP p → SameOutcome k l) : SameOutcome (withSeed s k) (withSeed t l) := by
  have hseeded : s.SEEDED = t.SEEDED := h.1
  cases hs : s.SEEDED with
  | false =>
    rw [withSeed_unseeded hs, withSeed_unseeded (hseeded ▸ hs)]
    exact h.afterError .notSeeded
  | true =>
    rw [withSeed_seeded hs, withSeed_seeded (hseeded ▸ hs)]
    exact hkl t.P (h.eq_setP hs)

theorem SameState.drawCommand (h : SameState s t) (draw : Engine → Nat × Engine) :
    SameOutcome (Machine.withSeed s (answerDraw (draw s.S) s)) (Machine.withSeed t (answerDraw (draw t.S) t)) := by
  refine h.withSeed fun p ht => ?_
  subst ht
  exact sameState_setP _ p

theorem SameState.boundedCommand (h : SameState s t) (n : Int) (W : Nat) (draw : Engine → Nat × Engine) :
    SameOutcome (boundedCommand n W draw s) (boundedCommand n W draw t) := by
  refine h.withSeed fun p ht => ?_
  subst ht
  rw [State.setP_S]
  split
  · exact sameState_setP _ p
  · cases bounded n.toNat W draw s.S with
    | none => exact rfl
    | some d => exact sameState_setP _ p

theorem SameState.sampleCommand (h : SameState s t) (sample : Engine → Option (Word × Engine)) :
    SameOutcome (Machine.withSeed s (answerSample (sample s.S) s))
      (Machine.withSeed t (answerSample (sample t.S) t)) := by
  refine h.withSeed fun p ht => ?_
  subst ht
  rw [State.setP_S]
  cases sample s.S with
  | none => exact rfl
  | some d => exact sameState_setP _ p

theorem SameState.execSeed (h : SameState s t) (a : Word) : SameOutcome (execSeed a s) (execSeed a t) := by
  obtain ⟨-, -, hcmd, hdin, hout⟩ := h
  exact ⟨rfl, fun _ => ⟨rfl, rfl, rfl⟩, congrArg List.tail hcmd, hdin, congrArg (· ++ _) hout⟩

theorem SameState.execZrom (h : SameState s t) (a : Word) : SameOutcome (execZrom a s) (execZrom a t) := by
  unfold Machine.execZrom
  split
  · exact h.respond _ _
  · exact h.afterError _

theorem SameState.permWith (h : SameState s t) (par : Parameters) (a : Word) :
    SameOutcome (permWith par a s) (permWith par a t) := by
  refine h.withSeed fun p ht => ?_
  subst ht
  unfold permCommand
  rw [State.setP_S, State.setP_P]
  split
  · exact sameState_setP _ p
  · split
    · exact sameState_setP _ p
    · rcases permRun_agree par.step s.P p s.S (n := (signed64 a).toNat) (cap := par.permMax) (by omega) with
        ⟨hs, ht⟩ | ⟨vs, p', q', e, hs, ht⟩
      · simp only [hs, ht]
        exact rfl
      · simp only [hs, ht]
        exact sameState_setP _ q'

theorem SameState.shufWith (h : SameState s t) (par : Parameters) (a : Word) :
    SameOutcome (shufWith par a s) (shufWith par a t) := by
  refine h.withSeed fun p ht => ?_
  subst ht
  unfold shufCommand
  rw [State.setP_S]
  split
  · exact sameState_setP _ p
  · cases shuffleSwaps par.step ((signed64 a).toNat - 1) s.S with
    | none => exact rfl
    | some r => exact sameState_setP _ p

theorem SameState.readWith (h : SameState s t) (par : Parameters) (a : Word) :
    SameOutcome (readWith par a s) (readWith par a t) := by
  refine h.withSeed fun p ht => ?_
  subst ht
  unfold readCommand
  split
  · exact sameState_setP _ p
  · exact sameState_setP _ p

theorem SameState.marshalWith (h : SameState s t) (par : Parameters) (a : Word) :
    SameOutcome (marshalWith par a s) (marshalWith par a t) := by
  refine h.withSeed fun p ht => ?_
  subst ht
  exact sameState_setP _ p

/-- `UNMARSHAL` looks at `DIN` only (R184, R241). -/
theorem SameState.unmarshalWith (h : SameState s t) (par : Parameters) (a : Word) :
    SameOutcome (unmarshalWith par a s) (unmarshalWith par a t) := by
  have ⟨_, _, _, hdin, _⟩ := h
  unfold Machine.unmarshalWith
  rw [← hdin]
  split
  · exact h
  · cases parseSnapshot par.snapVer (s.DIN.take (unsigned64 a)) with
    | none => exact (h.dropDin _).afterError _
    | some x => exact ((h.dropDin _).restore x).respond _ _

/-- A command does the same in two instances in the same state (R33). -/
theorem SameState.execWith (h : SameState s t) (par : Parameters) (i : Instr) :
    SameOutcome (execWith par i s) (execWith par i t) := by
  cases i with
  | seed a => exact h.execSeed a
  | u64 a => exact h.drawCommand (drawU64 par.step)
  | u32 a => exact h.drawCommand (drawU32 par.step)
  | i63 a => exact h.drawCommand (drawI63 par.step)
  | i31 a => exact h.drawCommand (drawI31 par.step)
  | int a => exact h.drawCommand (drawI63 par.step)
  | u64n a => exact h.boundedCommand (unsigned64 a) 64 (drawU64 par.step)
  | i63n a => exact h.boundedCommand (signed64 a) 63 (drawI63 par.step)
  | u32n a => exact h.boundedCommand (unsigned32 a) 32 (drawU32 par.step)
  | i31n a => exact h.boundedCommand (signed32 a) 31 (drawI31 par.step)
  | intn a => exact h.boundedCommand (signed64 a) 63 (drawI63 par.step)
  | f64 a => exact h.drawCommand (drawF64 par.step)
  | f32 a => exact h.drawCommand (drawF32 par.step)
  | norm a => exact h.sampleCommand (normSample par.functions par.step)
  | exp a => exact h.sampleCommand (expSample par.functions par.step)
  | zrom a => exact h.execZrom a
  | perm a => exact h.permWith par a
  | shuf a => exact h.shufWith par a
  | read a => exact h.readWith par a
  | marshal a => exact h.marshalWith par a
  | unmarshal a => exact h.unmarshalWith par a

end

end Sys2Proof.Machine

namespace Sys2Proof.Proofs

open Sys2Proof Sys2Proof.Machine

/-- Settles O59: what is behind the seed check sees the scratch RAM only in `PERM`, which reads back nothing it has not
written (`permRun_agree`); `SEED`, `ZROM` and `UNMARSHAL` see neither the registers nor the RAM. -/
theorem sameStateSameBehaviour : Obligations.SameStateSameBehaviour := by
  intro i s t h
  refine ⟨?_, fun par => h.execWith par i⟩
  rw [exec_eq_execWith, exec_eq_execWith]
  exact h.execWith defaultParameters i

end Sys2Proof.Proofs
end

section
/-! The scratch RAM (R40, R44, R46, R167): `PERM` alone writes it, keeps its canonical form, and reaches no entry that
does not exist or that it has not written. -/

namespace Sys2Proof.Machine

section

variable {par : Parameters} {i : Instr} {s t : State}

/-! ## The canonical form -/

theorem permRun_keeps_scratchWf {σ : Type} {cap n : Nat} {next : Source σ} {p : List (Nat × Word)} {e : σ}
    {r : PermResult σ} (hn : n ≤ cap) (h : permRun cap next n p e = .ok r) (hp : scratchWf cap p = true) :
    scratchWf cap r.ram = true := by
  rcases permRun_cases next n p e hn with hnever | ⟨r', hr', -, -, -, hwf⟩
  · cases h.symm.trans hnever
  · cases h.symm.trans hr'
    exact hwf hp

theorem CommandEffect.keeps_scratchWf (h : CommandEffect par i s t) (hs : scratchWf par.permMax s.P = true) :
    scratchWf par.permMax t.P = true := by
  cases h with
  | perm n r hn hr => exact permRun_keeps_scratchWf hn hr hs
  | _ => exact hs

theorem stepWith_keeps_scratchWf (hs : scratchWf par.permMax s.P = true) (h : stepWith par s = .next t) :
    scratchWf par.permMax t.P = true := by
  rcases performNext_next h with ⟨-, rfl⟩ | ⟨w, rest, -, ⟨i, -, hi⟩ | ⟨e, -, rfl⟩⟩
  · exact hs
  · exact (execWith_effect hi).keeps_scratchWf hs
  · exact hs

/-! ## No fault -/

theorem not_isFault_next (t : State) : ¬ IsFault (.next t) := by
  rintro ⟨f, hf⟩
  cases hf

theorem not_isFault_refused (r : Refusal) : ¬ IsFault (.refused r) := by
  rintro ⟨f, hf⟩
  cases hf

theorem withSeed_not_isFault {k : Host.Outcome State Fault Refusal} (hk : ¬ IsFault k) : ¬ IsFault (withSeed s k) := by
  unfold withSeed
  split
  · exact hk
  · exact not_isFault_next _

theorem drawCommand_not_isFault (d : Nat × Engine) : ¬ IsFault (withSeed s (answerDraw d s)) :=
  withSeed_not_isFault (not_isFault_next _)

theorem boundedCommand_not_isFault (n : Int) (W : Nat) (draw : Engine → Nat × Engine) :
    ¬ IsFault (boundedCommand n W draw s) := by
  apply withSeed_not_isFault
  split
  · exact not_isFault_next _
  · cases bounded n.toNat W draw s.S with
    | none => exact not_isFault_refused _
    | some d => exact not_isFault_next _

theorem sampleCommand_not_isFault (d : Option (Word × Engine)) : ¬ IsFault (withSeed s (answerSample d s)) := by
  apply withSeed_not_isFault
  cases d with
  | none => exact not_isFault_refused _
  | some d => exact not_isFault_next _

theorem execZrom_not_isFault (a : Word) : ¬ IsFault (execZrom a s) := by
  rw [execZrom_eq]
  split
  · exact not_isFault_next _
  · exact not_isFault_next _

/-- The one command that uses the scratch RAM: within the capacity its run ends or its draws never do, and it stops for no
other reason (`permRun_cases`). -/
theorem permWith_not_isFault (par : Parameters) (a : Word) : ¬ IsFault (permWith par a s) := by
  apply withSeed_not_isFault
  unfold permCommand
  split
  · exact not_isFault_next _
  · split
    · exact not_isFault_next _
    · have hn : (signed64 a).toNat ≤ par.permMax := by omega
      rcases permRun_cases par.step _ s.P s.S hn with hnever | ⟨r, hr, -⟩
      · rw [hnever]
        exact not_isFault_refused _
      · rw [hr]
        exact not_isFault_next _

theorem shufWith_not_isFault (par : Parameters) (a : Word) : ¬ IsFault (shufWith par a s) := by
  apply withSeed_not_isFault
  unfold shufCommand
  split
  · exact not_isFault_next _
  · cases shuffleSwaps par.step ((signed64 a).toNat - 1) s.S with
    | none => exact not_isFault_refused _
    | some r => exact not_isFault_next _

theorem readWith_not_isFault (par : Parameters) (a : Word) : ¬ IsFault (readWith par a s) := by
  apply withSeed_not_isFault
  unfold readCommand
  split
  · exact not_isFault_next _
  · exact not_isFault_next _

theorem unmarshalWith_not_isFault (par : Parameters) (a : Word) : ¬ IsFault (unmarshalWith par a s) := by
  unfold unmarshalWith
  split
  · exact not_isFault_next _
  · cases parseSnapshot par.snapVer (s.DIN.take (unsigned64 a)) with
    | none => exact not_isFault_next _
    | some x => exact not_isFault_next _

/-- No command faults, in any state and under any parameters (R44, R46). -/
theorem execWith_not_isFault (par : Parameters) (i : Instr) (s : State) : ¬ IsFault (execWith par i s) := by
  cases i with
  | seed a => exact not_isFault_next _
  | u64 a => exact drawCommand_not_isFault _
  | u32 a => exact drawCommand_not_isFault _
  | i63 a => exact drawCommand_not_isFault _
  | i31 a => exact drawCommand_not_isFault _
  | int a => exact drawCommand_not_isFault _
  | u64n a => exact boundedCommand_not_isFault _ _ _
  | i63n a => exact boundedCommand_not_isFault _ _ _
  | u32n a => exact boundedCommand_not_isFault _ _ _
  | i31n a => exact boundedCommand_not_isFault _ _ _
  | intn a => exact boundedCommand_not_isFault _ _ _
  | f64 a => exact drawCommand_not_isFault _
  | f32 a => exact drawCommand_not_isFault _
  | norm a => exact sampleCommand_not_isFault _
  | exp a => exact sampleCommand_not_isFault _
  | zrom a => exact execZrom_not_isFault a
  | perm a => exact permWith_not_isFault par a
  | shuf a => exact shufWith_not_isFault par a
  | read a => exact readWith_not_isFault par a
  | marshal a => exact withSeed_not_isFault (not_isFault_next _)
  | unmarshal a => exact unmarshalWith_not_isFault par a

end

end Sys2Proof.Machine

namespace Sys2Proof.Proofs

open Sys2Proof Sys2Proof.Machine

/-- Settles O9: only `PERM` writes the scratch RAM, and every write of its fill and its swaps keeps the canonical form
(`permRun_cases`). -/
theorem scratchFormIsKept : Obligations.ScratchFormIsKept :=
  ⟨fun s _ hs h => stepWith_keeps_scratchWf (par := defaultParameters) hs (step_eq_stepWith s ▸ h),
    fun _ _ _ hs h => stepWith_keeps_scratchWf hs h⟩

/-- Settles O57: only `PERM` uses the scratch RAM, its size is checked against the capacity first, and its fill has written
every entry that its swaps and its stream-out read. -/
theorem commandsNeverFault : Obligations.CommandsNeverFault := by
  intro i s
  refine ⟨?_, fun par => execWith_not_isFault par i s⟩
  rw [exec_eq_execWith]
  exact execWith_not_isFault defaultParameters i s

end Sys2Proof.Proofs
end

section
/-! How a command is answered (R47, R61, R201, R209, R213): its items on its one stream, then its one response, with a
status of its row of the table of R209. -/

namespace Sys2Proof.Machine

/-! ## The response word -/

/-- `ST` in bits 67:64, `R` in bits 63:0 (R61). -/
theorem Response.bits_toNat (x : Response) : x.bits.toNat = x.st.code.toNat * 2 ^ 64 + x.r.toNat := by
  rw [Response.bits, BitVec.toNat_append, ← Nat.shiftLeft_add_eq_or_of_lt x.r.isLt, Nat.shiftLeft_eq]

/-! ## The statuses of a command -/

theorem ok_mem_possibleStatuses (i : Instr) : Status.ok ∈ possibleStatuses i := by
  cases i <;> exact List.mem_cons_self

theorem notSeeded_mem_possibleStatuses {i : Instr} (h : needsSeed i = true) : Status.notSeeded ∈ possibleStatuses i := by
  cases i with
  | seed | zrom | unmarshal => exact absurd h Bool.false_ne_true
  | _ => simp [possibleStatuses]

/-! ## The answer -/

/-- From `s` to `t` the command `i` has left the channel and been answered: its items, then one response with a status
allowed it; an error comes alone and with `R = 0`. -/
def Answered (i : Instr) (s t : State) : Prop :=
  t.CMD = s.CMD.tail ∧ ∃ (items : List OutItem) (x : Response), t.OUT = s.OUT ++ items ++ [.rsp x] ∧
    (∀ y ∈ items, onItsStream i y = true) ∧ x.st ∈ possibleStatuses i ∧ (x.st ≠ .ok → items = [] ∧ x.r = 0#64)

section

variable {par : Parameters} {i : Instr} {s t u : State} {r : Word}

/-- A response `OK` after items on the command's stream. -/
theorem Answered.of_items {items : List OutItem} (hcmd : u.CMD = s.CMD) (hout : u.OUT = s.OUT ++ items)
    (hitems : ∀ y ∈ items, onItsStream i y = true) : Answered i s (u.respond .ok r) := by
  refine ⟨congrArg List.tail hcmd, items, ⟨.ok, r⟩, ?_, hitems, ok_mem_possibleStatuses i, fun h => absurd rfl h⟩
  rw [State.respond_OUT, hout]

/-- A response `OK` and no items. -/
theorem Answered.of_ok (hcmd : u.CMD = s.CMD) (hout : u.OUT = s.OUT) : Answered i s (u.respond .ok r) :=
  .of_items hcmd (hout.trans (List.append_nil _).symm) (List.forall_mem_nil _)

theorem Answered.afterDraws {e : Engine} : Answered i s (s.afterDraws e r) :=
  .of_ok (u := s.setS e) rfl rfl

/-- An error allowed the command, with no items and `R = 0` (R211). -/
theorem Answered.of_error {e : Status} (hcmd : u.CMD = s.CMD) (hout : u.OUT = s.OUT) (he : e ∈ possibleStatuses i) :
    Answered i s (u.afterError e) := by
  refine ⟨congrArg List.tail hcmd, [], ⟨e, 0#64⟩, ?_, List.forall_mem_nil _, he, fun _ => ⟨rfl, rfl⟩⟩
  rw [State.afterError_OUT, hout, List.append_nil]

theorem Answered.notSeeded (hi : needsSeed i = true) : Answered i s (s.afterError .notSeeded) :=
  .of_error rfl rfl (notSeeded_mem_possibleStatuses hi)

/-! ## The commands -/

theorem drawCommand_answered {d : Nat × Engine} (hi : needsSeed i = true) (h : withSeed s (answerDraw d s) = .next t) :
    Answered i s t := by
  rcases drawCommand_next h with ⟨-, rfl⟩ | ⟨-, rfl⟩
  · exact .notSeeded hi
  · exact .afterDraws

theorem boundedCommand_answered {n : Int} {W : Nat} {draw : Engine → Nat × Engine} (hi : needsSeed i = true)
    (hdom : .domainError ∈ possibleStatuses i) (h : boundedCommand n W draw s = .next t) : Answered i s t := by
  rcases boundedCommand_next h with ⟨-, rfl⟩ | ⟨-, -, rfl⟩ | ⟨-, -, v, e, -, rfl⟩
  · exact .notSeeded hi
  · exact .of_error rfl rfl hdom
  · exact .afterDraws

theorem sampleCommand_answered {d : Option (Word × Engine)} (hi : needsSeed i = true)
    (h : withSeed s (answerSample d s) = .next t) : Answered i s t := by
  rcases sampleCommand_next h with ⟨-, rfl⟩ | ⟨-, r, e, -, rfl⟩
  · exact .notSeeded hi
  · exact .afterDraws

theorem execSeed_answered {a : Word} (h : execSeed a s = .next t) : Answered (.seed a) s t := by
  cases h
  exact .of_ok rfl rfl

theorem execZrom_answered {a : Word} (h : execZrom a s = .next t) : Answered (.zrom a) s t := by
  rw [execZrom_eq] at h
  split at h
  · cases h
    exact .afterDraws
  · cases h
    exact .of_error rfl rfl (by simp [possibleStatuses])

/-- The values of `PERM` go out on `VOUT` (R161). -/
theorem permWith_answered {a : Word} (h : permWith par a s = .next t) : Answered (.perm a) s t := by
  rcases permWith_next h with ⟨-, rfl⟩ | ⟨-, -, rfl⟩ | ⟨-, -, -, rfl⟩ | ⟨-, -, -, r, -, rfl⟩
  · exact .notSeeded rfl
  · exact .of_error rfl rfl (by simp [possibleStatuses])
  · exact .of_error rfl rfl (by simp [possibleStatuses])
  · exact .of_items rfl rfl (List.forall_mem_map.mpr fun _ _ => rfl)

/-- The swap requests of `SHUF` go out on `SWP` (R162). -/
theorem shufWith_answered {a : Word} (h : shufWith par a s = .next t) : Answered (.shuf a) s t := by
  rcases shufWith_next h with ⟨-, rfl⟩ | ⟨-, -, rfl⟩ | ⟨-, -, swaps, e, -, rfl⟩
  · exact .notSeeded rfl
  · exact .of_error rfl rfl (by simp [possibleStatuses])
  · exact .of_items rfl rfl (List.forall_mem_map.mpr fun _ _ => rfl)

/-- The bytes of `READ` go out on `BOUT` (R171). -/
theorem readWith_answered {a : Word} (h : readWith par a s = .next t) : Answered (.read a) s t := by
  rcases readWith_next h with ⟨-, rfl⟩ | ⟨-, -, rfl⟩ | ⟨-, -, rfl⟩
  · exact .notSeeded rfl
  · exact .of_error rfl rfl (by simp [possibleStatuses])
  · exact .of_items rfl rfl (List.forall_mem_map.mpr fun _ _ => rfl)

/-- The snapshot of `MARSHAL` goes out on `BOUT` (R182). -/
theorem marshalWith_answered {a : Word} (h : marshalWith par a s = .next t) : Answered (.marshal a) s t := by
  rcases marshalWith_next h with ⟨-, rfl⟩ | ⟨-, rfl⟩
  · exact .notSeeded rfl
  · exact .of_items rfl rfl (List.forall_mem_map.mpr fun _ _ => rfl)

/-- `UNMARSHAL` waits for its payload, or is answered (R184, R241). -/
theorem unmarshalWith_answered {a : Word} (h : unmarshalWith par a s = .next t) :
    (t = s ∧ s.DIN.length < a.toNat) ∨ Answered (.unmarshal a) s t := by
  rcases unmarshalWith_next h with ⟨hlt, ht⟩ | ⟨-, x, -, rfl⟩ | ⟨-, -, rfl⟩
  · exact .inl ⟨ht, hlt⟩
  · exact .inr (.of_ok rfl rfl)
  · exact .inr (.of_error rfl rfl (by simp [possibleStatuses]))

/-- A command that goes on is answered, unless it is an `UNMARSHAL` that waits. -/
theorem execWith_answered (h : execWith par i s = .next t) :
    (t = s ∧ ∃ a, i = .unmarshal a ∧ s.DIN.length < a.toNat) ∨ Answered i s t := by
  cases i with
  | unmarshal a => exact (unmarshalWith_answered h).imp_left fun ⟨ht, hlt⟩ => ⟨ht, a, rfl, hlt⟩
  | seed a => exact .inr (execSeed_answered h)
  | u64 a => exact .inr (drawCommand_answered rfl h)
  | u32 a => exact .inr (drawCommand_answered rfl h)
  | i63 a => exact .inr (drawCommand_answered rfl h)
  | i31 a => exact .inr (drawCommand_answered rfl h)
  | int a => exact .inr (drawCommand_answered rfl h)
  | u64n a => exact .inr (boundedCommand_answered rfl (by simp [possibleStatuses]) h)
  | i63n a => exact .inr (boundedCommand_answered rfl (by simp [possibleStatuses]) h)
  | u32n a => exact .inr (boundedCommand_answered rfl (by simp [possibleStatuses]) h)
  | i31n a => exact .inr (boundedCommand_answered rfl (by simp [possibleStatuses]) h)
  | intn a => exact .inr (boundedCommand_answered rfl (by simp [possibleStatuses]) h)
  | f64 a => exact .inr (drawCommand_answered rfl h)
  | f32 a => exact .inr (drawCommand_answered rfl h)
  | norm a => exact .inr (sampleCommand_answered rfl h)
  | exp a => exact .inr (sampleCommand_answered rfl h)
  | zrom a => exact .inr (execZrom_answered h)
  | perm a => exact .inr (permWith_answered h)
  | shuf a => exact .inr (shufWith_answered h)
  | read a => exact .inr (readWith_answered h)
  | marshal a => exact .inr (marshalWith_answered h)

end

end Sys2Proof.Machine

namespace Sys2Proof.Proofs

open Sys2Proof Sys2Proof.Machine

/-- Settles O53: each command either emits items of its own kind and answers `OK`, or answers an error of its row with
nothing emitted; only an `UNMARSHAL` that waits does neither (`execWith_answered`). -/
theorem oneResponsePerCommand : Obligations.OneResponsePerCommand :=
  ⟨Response.bits_toNat, ⟨rfl, rfl, rfl, rfl, rfl, rfl, rfl, rfl⟩,
    fun i s _ h => execWith_answered (exec_eq_execWith i s ▸ h)⟩

end Sys2Proof.Proofs
end

section
/-! The map of the table ROM and the command that reads it (R42, R43, R208). -/

namespace Sys2Proof.Machine

/-- The mapped indices: three tables of 256 entries and a constant, twice (R42). -/
theorem zromMapped_iff (a : Nat) : zromMapped a = true ↔ a ≤ 0x300 ∨ (0x400 ≤ a ∧ a ≤ 0x700) := by
  simp only [zromMapped, Bool.and_eq_true, Bool.not_eq_true', Bool.and_eq_false_iff, decide_eq_true_eq,
    decide_eq_false_iff_not]
  omega

/-- Bits 10:8 of an index select the table, bits 7:0 the entry (R42). -/
theorem zromEntry_layers {i : Nat} (hi : i < 256) :
    zromEntry (0x000 + i) = (normalLayer i).k ∧ zromEntry (0x100 + i) = (normalLayer i).w ∧
    zromEntry (0x200 + i) = (normalLayer i).f ∧ zromEntry (0x400 + i) = (exponentialLayer i).k ∧
    zromEntry (0x500 + i) = (exponentialLayer i).w ∧ zromEntry (0x600 + i) = (exponentialLayer i).f := by
  have hdiv (k : Nat) : (256 * k + i) / 256 = k := by omega
  have hmod (k : Nat) : (256 * k + i) % 256 = i := by omega
  simp only [zromEntry, hdiv 0, hdiv 1, hdiv 2, hdiv 4, hdiv 5, hdiv 6, hmod 0, hmod 1, hmod 2, hmod 4, hmod 5, hmod 6,
    and_self]

/-- A mapped index is answered with its entry, and nothing else changes (R43). -/
theorem exec_zrom_of_entry {a r : Word} {n : Nat} (ha : a.toNat = n) (hn : n ≤ 0x300 ∨ (0x400 ≤ n ∧ n ≤ 0x700))
    (he : zromEntry n = r) (s : State) : exec (.zrom a) s = .next (s.afterDraws s.S r) := by
  subst ha he
  rw [exec_zrom, execZrom_eq, if_pos ((zromMapped_iff _).mpr hn)]

theorem exec_zrom_of_unmapped {a : Word} (ha : ¬ (a.toNat ≤ 0x300 ∨ (0x400 ≤ a.toNat ∧ a.toNat ≤ 0x700))) (s : State) :
    exec (.zrom a) s = .next (s.afterError .addressError) := by
  rw [exec_zrom, execZrom_eq, if_neg (mt (zromMapped_iff _).mp ha)]

theorem decode_zrom (a : Word) : decode (0x2A#8 ++ a) = .ok (.zrom a) := by
  have hop : CommandWord.op (0x2A#8 ++ a) = 0x2A#8 := BitVec.extractLsb'_append_eq_left
  have hbits : CommandWord.operandBits (0x2A#8 ++ a) = a := BitVec.extractLsb'_append_eq_right
  unfold decode
  rw [hop, hbits]
  rfl

end Sys2Proof.Machine

namespace Sys2Proof.Proofs

open Sys2Proof Sys2Proof.Machine

/-- Settles O37, clause by clause of the map: each index in one is mapped and has the entry the clause names, and the
indices left over are not mapped. -/
theorem zromReadsTheMap : Obligations.ZromReadsTheMap := by
  intro a s
  refine ⟨decode_zrom a, fun i hi => ?_, fun ha => exec_zrom_of_entry ha (by omega) rfl s,
    fun ha => exec_zrom_of_entry ha (by omega) rfl s, fun ha => exec_zrom_of_unmapped (by omega) s, rfl⟩
  obtain ⟨hkn, hwn, hfn, hke, hwe, hfe⟩ := zromEntry_layers hi
  exact ⟨fun ha => exec_zrom_of_entry ha (by omega) hkn s, fun ha => exec_zrom_of_entry ha (by omega) hwn s,
    fun ha => exec_zrom_of_entry ha (by omega) hfn s, fun ha => exec_zrom_of_entry ha (by omega) hke s,
    fun ha => exec_zrom_of_entry ha (by omega) hwe s, fun ha => exec_zrom_of_entry ha (by omega) hfe s⟩

end Sys2Proof.Proofs
end

section
/-! The command word and the instruction it stands for (R60, R62, R63, R65, R67): a word is its opcode and its operand
and nothing else, an opcode and an operand name one instruction, and so a word decodes to exactly the instruction it
encodes. -/

namespace Sys2Proof

/-! ## The two fields of a command word (R60) -/

@[simp] theorem CommandWord.op_append (op : BitVec 8) (a : Word) : CommandWord.op (op ++ a) = op :=
  BitVec.extractLsb'_append_eq_left

@[simp] theorem CommandWord.operandBits_append (op : BitVec 8) (a : Word) : CommandWord.operandBits (op ++ a) = a :=
  BitVec.extractLsb'_append_eq_right

@[simp] theorem CommandWord.op_append_operandBits (w : CommandWord) : w.op ++ w.operandBits = w :=
  (BitVec.extractLsb'_append_extractLsb'_eq_extractLsb' rfl).trans BitVec.extractLsb'_eq_self

/-- `op` and `A` are all of a command word. -/
theorem encode_eq_iff {w : CommandWord} {i : Instr} : encode i = w ↔ w.op = i.opcode ∧ w.operandBits = i.operand := by
  constructor
  · rintro rfl
    exact ⟨CommandWord.op_append _ _, CommandWord.operandBits_append _ _⟩
  · rintro ⟨hop, hbits⟩
    rw [encode, ← hop, ← hbits, CommandWord.op_append_operandBits]

/-! ## The opcode map (R62) -/

/-- Every instruction stands in the row of its opcode, with its operand. -/
theorem ofOpcode_opcode (i : Instr) : ofOpcode i.opcode i.operand = some i := by
  cases i with
  | seed a => exact Laws.OpcodeRow.seed a
  | u64 a => exact Laws.OpcodeRow.u64 a
  | u32 a => exact Laws.OpcodeRow.u32 a
  | i63 a => exact Laws.OpcodeRow.i63 a
  | i31 a => exact Laws.OpcodeRow.i31 a
  | int a => exact Laws.OpcodeRow.int a
  | u64n a => exact Laws.OpcodeRow.u64n a
  | i63n a => exact Laws.OpcodeRow.i63n a
  | u32n a => exact Laws.OpcodeRow.u32n a
  | i31n a => exact Laws.OpcodeRow.i31n a
  | intn a => exact Laws.OpcodeRow.intn a
  | f64 a => exact Laws.OpcodeRow.f64 a
  | f32 a => exact Laws.OpcodeRow.f32 a
  | norm a => exact Laws.OpcodeRow.norm a
  | exp a => exact Laws.OpcodeRow.exp a
  | zrom a => exact Laws.OpcodeRow.zrom a
  | perm a => exact Laws.OpcodeRow.perm a
  | shuf a => exact Laws.OpcodeRow.shuf a
  | read a => exact Laws.OpcodeRow.read a
  | marshal a => exact Laws.OpcodeRow.marshal a
  | unmarshal a => exact Laws.OpcodeRow.unmarshal a

/-- A row of the map gives the instruction with that opcode and that operand. -/
theorem opcode_operand_of_ofOpcode {op : BitVec 8} {a : Word} {i : Instr} (h : ofOpcode op a = some i) :
    op = i.opcode ∧ a = i.operand := by
  unfold ofOpcode at h
  split at h <;> cases h
  all_goals exact ⟨BitVec.eq_of_toNat_eq ‹_›, rfl⟩

/-- The map is one to one: an instruction has one opcode and one operand. -/
theorem ofOpcode_eq_some_iff {op : BitVec 8} {a : Word} {i : Instr} :
    ofOpcode op a = some i ↔ op = i.opcode ∧ a = i.operand := by
  refine ⟨opcode_operand_of_ofOpcode, ?_⟩
  rintro ⟨rfl, rfl⟩
  exact ofOpcode_opcode i

/-! ## Decoding -/

theorem decode_of_ofOpcode {w : CommandWord} {i : Instr} (h : ofOpcode w.op w.operandBits = some i) :
    decode w = .ok i := by
  simp only [decode, h]

/-- An opcode outside the map is rejected by name (R65). -/
theorem decode_of_illegal {w : CommandWord} (h : ofOpcode w.op w.operandBits = none) :
    decode w = .error (.illegalCommand w.op) := by
  simp only [decode, h]

/-- A word decodes by the row of the map that its opcode and its operand name, and by nothing else. -/
theorem decode_eq_ok_iff_ofOpcode {w : CommandWord} {i : Instr} :
    decode w = .ok i ↔ ofOpcode w.op w.operandBits = some i := by
  refine ⟨fun h => ?_, decode_of_ofOpcode⟩
  cases hrow : ofOpcode w.op w.operandBits with
  | none => rw [decode_of_illegal hrow] at h; cases h
  | some j => rw [decode_of_ofOpcode hrow] at h; cases h; rfl

/-- A word decodes to an instruction exactly when it is that instruction's command word. -/
theorem decode_eq_ok_iff {w : CommandWord} {i : Instr} : decode w = .ok i ↔ encode i = w := by
  rw [decode_eq_ok_iff_ofOpcode, ofOpcode_eq_some_iff, encode_eq_iff]

end Sys2Proof

namespace Sys2Proof.Machine

/-! ## The step on a legal word (R67) -/

theorem performNext_of_decode {run : Instr → State → Host.Outcome State Fault Refusal} {s : State} {w : CommandWord}
    {rest : List CommandWord} {i : Instr} (hcmd : s.CMD = w :: rest) (hw : decode w = .ok i) :
    performNext run s = run i s := by
  simp only [performNext, hcmd, hw]

/-! ## The low half of the operand (R63) -/

section

variable {a b : Word}

theorem lowHalf_eq (h : a.toNat % 2 ^ 32 = b.toNat % 2 ^ 32) : a.extractLsb' 0 32 = b.extractLsb' 0 32 :=
  BitVec.eq_of_toNat_eq (by simpa only [BitVec.extractLsb'_toNat, Nat.shiftRight_zero] using h)

/-- `U32N` reads `A[31:0]` only. -/
theorem u32nWith_lowHalf (h : a.toNat % 2 ^ 32 = b.toNat % 2 ^ 32) (par : Parameters) (s : State) :
    u32nWith par a s = u32nWith par b s := by
  simp only [u32nWith, unsigned32, lowHalf_eq h]

/-- `I31N` reads `A[31:0]` only. -/
theorem i31nWith_lowHalf (h : a.toNat % 2 ^ 32 = b.toNat % 2 ^ 32) (par : Parameters) (s : State) :
    i31nWith par a s = i31nWith par b s := by
  simp only [i31nWith, signed32, lowHalf_eq h]

end

end Sys2Proof.Machine

namespace Sys2Proof.Proofs

open Sys2Proof Sys2Proof.Machine

/-- Settles O1: the command word of an instruction is a word it decodes from (`decode_eq_ok_iff`). -/
theorem decodeAfterEncode : Obligations.DecodeAfterEncode :=
  fun _ => decode_eq_ok_iff.mpr rfl

/-- Settles O2: the other direction of `decode_eq_ok_iff`. -/
theorem encodeAfterDecode : Obligations.EncodeAfterDecode :=
  fun _ _ => decode_eq_ok_iff.mp

/-- Settles O3: the six legal words are the command words of the instructions named; the opcodes of the other two are in
no row of the map. -/
theorem sampleWordsDecode : Obligations.SampleWordsDecode :=
  ⟨decode_eq_ok_iff.mpr rfl, decode_eq_ok_iff.mpr rfl, decode_eq_ok_iff.mpr rfl, decode_eq_ok_iff.mpr rfl,
    decode_eq_ok_iff.mpr rfl, decode_eq_ok_iff.mpr rfl, decode_of_illegal rfl, decode_of_illegal rfl⟩

/-- Settles O4: a step performs the instruction decoded whatever the parameters (`performNext_of_decode`), and
`exec` and `step` are those of the default parameters. -/
theorem stepRunsDecodedCommand : Obligations.StepRunsDecodedCommand :=
  fun s _ _ i hcmd hw => ⟨performNext_of_decode hcmd hw, fun _ => performNext_of_decode hcmd hw,
    exec_eq_execWith i s, step_eq_stepWith s⟩

/-- Settles O56: ten commands have a meaning in which `A` does not occur; the two 32-bit bounds read its low half
only. -/
theorem ignoredOperandBitsHaveNoEffect : Obligations.IgnoredOperandBitsHaveNoEffect :=
  fun _ _ s => ⟨⟨rfl, rfl, rfl, rfl, rfl, rfl, rfl, rfl, rfl, rfl⟩,
    fun h => ⟨u32nWith_lowHalf h defaultParameters s, i31nWith_lowHalf h defaultParameters s⟩⟩

end Sys2Proof.Proofs
end

section
/-! The engine function in integers (R8, R82, R83): the advance as a multiply-add modulo `2^128`, and the output as a
rotated exclusive or. -/

namespace Sys2Proof.Machine

/-! ## The advance -/

/-- The increment is the first operand of the model's sum and the last of the spec's. -/
theorem advance_toNat (e : Engine) : (advance e).toNat = (e.toNat * pcgMul.toNat + pcgInc.toNat) % 2 ^ 128 := by
  rw [advance, BitVec.toNat_add, BitVec.toNat_mul, Nat.add_mod_mod, Nat.mul_comm, Nat.add_comm]

/-! ## The output -/

/-- A rotation right by k moves the low k bits above the others (R8). -/
theorem rotr64_toNat (x : Word) {k : Nat} (hk : k < 64) :
    (rotr64 x k).toNat = x.toNat / 2 ^ k + x.toNat % 2 ^ k * 2 ^ (64 - k) := by
  unfold rotr64
  split
  case isTrue h => subst h; simp [Nat.mod_one]
  case isFalse =>
    have hsplit : 2 ^ 64 = 2 ^ k * 2 ^ (64 - k) := by rw [← Nat.pow_add]; congr 1; omega
    have hshift : (x <<< (64 - k)).toNat = (x.toNat % 2 ^ k) <<< (64 - k) := by
      rw [BitVec.toNat_shiftLeft, Nat.shiftLeft_eq, Nat.shiftLeft_eq, hsplit, Nat.mul_mod_mul_right]
    have hlow : x.toNat / 2 ^ k < 2 ^ (64 - k) := Nat.div_lt_of_lt_mul (hsplit ▸ x.isLt)
    rw [BitVec.toNat_or, BitVec.toNat_ushiftRight, hshift, Nat.shiftRight_eq_div_pow, Nat.or_comm,
      ← Nat.shiftLeft_add_eq_or_of_lt hlow, Nat.shiftLeft_eq, Nat.add_comm]

/-- `S_hi ^ S_lo` (R21, R82). -/
theorem xor_halves_toNat (e : Engine) :
    (e.extractLsb' 64 64 ^^^ e.extractLsb' 0 64).toNat = (e.toNat / 2 ^ 64) ^^^ (e.toNat % 2 ^ 64) := by
  have hhi : e.toNat / 2 ^ 64 < 2 ^ 64 := Nat.div_lt_of_lt_mul e.isLt
  rw [BitVec.toNat_xor, BitVec.extractLsb'_toNat, BitVec.extractLsb'_toNat, Nat.shiftRight_eq_div_pow,
    Nat.mod_eq_of_lt hhi, Nat.shiftRight_zero]

/-- `S_hi[63:58]`, the top six bits of `S` (R82). -/
theorem slice_top_six (e : Engine) : slice e 127 122 = e.toNat / 2 ^ 122 ∧ e.toNat / 2 ^ 122 < 64 := by
  have htop : e.toNat / 2 ^ 122 < 64 := Nat.div_lt_of_lt_mul e.isLt
  rw [slice, BitVec.extractLsb'_toNat, Nat.shiftRight_eq_div_pow]
  exact ⟨Nat.mod_eq_of_lt htop, htop⟩

/-- The output as R82 writes it, in integers. -/
theorem output_toNat (e : Engine) :
    (output e).toNat =
      ((e.toNat / 2 ^ 64) ^^^ (e.toNat % 2 ^ 64)) / 2 ^ (e.toNat / 2 ^ 122) +
        ((e.toNat / 2 ^ 64) ^^^ (e.toNat % 2 ^ 64)) % 2 ^ (e.toNat / 2 ^ 122) * 2 ^ (64 - e.toNat / 2 ^ 122) := by
  obtain ⟨htop, hlt⟩ := slice_top_six e
  rw [output, htop, rotr64_toNat _ hlt, xor_halves_toNat]

/-! ## `U64` (R85) -/

/-- A raw word is a result as it stands (R64, R90). -/
theorem word_toNat_eq_self (r : Word) : word r.toNat = r :=
  BitVec.eq_of_toNat_eq (by rw [word_toNat, Nat.mod_eq_of_lt r.isLt])

/-- Once seeded, the word answered is that of the block's own `STEP` (R6, R85). -/
theorem u64With_seeded {s : State} (h : s.SEEDED = true) (par : Parameters) (a : Word) :
    u64With par a s = .next (s.afterDraws (par.step s.S).2 (par.step s.S).1) := by
  rw [u64With, withSeed_seeded h, answerDraw_eq, drawU64, word_toNat_eq_self]

end Sys2Proof.Machine

namespace Sys2Proof.Proofs

open Sys2Proof Sys2Proof.Machine

/-- Settles O12: the default `STEP` is the advance and the output from the state after it, both read in integers
(`advance_toNat`, `output_toNat`); unseeded, the command is turned away. -/
theorem rawWordIsTheRotatedXor : Obligations.RawWordIsTheRotatedXor := by
  intro a s
  refine ⟨decode_eq_ok_iff.mpr rfl, fun h => ?_, fun h => withSeed_unseeded h _,
    fun par h => u64With_seeded h par a⟩
  exact ⟨advance s.S, output (advance s.S), u64With_seeded h defaultParameters a, advance_toNat s.S, output_toNat _⟩

end Sys2Proof.Proofs
end

section
/-! The single cycle of the engine (R84): the advance is an affine map modulo `2^128` whose multiplier is 1 modulo 4 and
whose increment is odd, so that a state comes back after `2^128` draws and not before (the theorem of Hull and
Dobell). -/

namespace Sys2Proof.Machine

open Finset Function

/-! ## Sums of powers and powers of two -/

/-- A sum of k powers of a number that is 1 modulo 4 has the factors 2 of k, by lifting the exponent. -/
theorem emultiplicity_two_geom_sum {m : ℤ} (hm : 4 ∣ m - 1) (hm₁ : m ≠ 1) (k : ℕ) :
    emultiplicity 2 (∑ i ∈ range k, m ^ i) = emultiplicity 2 (k : ℤ) := by
  have hfin : FiniteMultiplicity 2 (m - 1) := Int.finiteMultiplicity_iff.mpr ⟨by decide, by omega⟩
  have hlift : emultiplicity 2 (m ^ k - 1) = emultiplicity 2 (m - 1) + emultiplicity 2 (k : ℤ) := by
    simpa only [one_pow] using Int.two_pow_sub_pow' k hm (by omega)
  rw [← geom_sum_mul, emultiplicity_mul Int.prime_two, add_comm] at hlift
  exact ENat.add_right_injective_of_ne_top (finiteMultiplicity_iff_emultiplicity_ne_top.mp hfin) hlift

theorem two_pow_dvd_geom_sum_iff {m : ℕ} (hm : m % 4 = 1) (hm₁ : m ≠ 1) (n k : ℕ) :
    2 ^ n ∣ ∑ i ∈ range k, m ^ i ↔ 2 ^ n ∣ k := by
  have hint : (2 : ℤ) ^ n ∣ ∑ i ∈ range k, (m : ℤ) ^ i ↔ (2 : ℤ) ^ n ∣ k := by
    rw [pow_dvd_iff_le_emultiplicity, emultiplicity_two_geom_sum (by omega) (by omega), pow_dvd_iff_le_emultiplicity]
  exact_mod_cast hint

/-! ## How far k draws move the state -/

/-- What the first draw from `e` adds to the state, before the reduction modulo `2^128`. -/
def firstMove (e : Engine) : ℕ := (pcgMul.toNat - 1) * e.toNat + pcgInc.toNat

theorem add_firstMove (e : Engine) : e.toNat + firstMove e = pcgMul.toNat * e.toNat + pcgInc.toNat := by
  have hmul : pcgMul.toNat = pcgMul.toNat - 1 + 1 := by decide
  rw [firstMove, hmul, Nat.add_sub_cancel]
  ring

/-- The multiplier less one is even and the increment odd. -/
theorem odd_firstMove (e : Engine) : Odd (firstMove e) := by
  have hmul : Even (pcgMul.toNat - 1) := by decide
  have hinc : Odd pcgInc.toNat := by decide
  exact (hmul.mul_right _).add_odd hinc

theorem advance_modEq (e : Engine) :
    (advance e).toNat ≡ pcgMul.toNat * e.toNat + pcgInc.toNat [MOD 2 ^ 128] := by
  rw [advance_toNat, mul_comm]
  exact Nat.mod_modEq _ _

/-- After k draws the state has moved by its first move times the sum of the first k powers of the multiplier. -/
theorem engineAfter_modEq (e : Engine) (k : ℕ) :
    (engineAfter e k).toNat ≡ e.toNat + (∑ i ∈ range k, pcgMul.toNat ^ i) * firstMove e [MOD 2 ^ 128] := by
  induction k with
  | zero =>
    rw [range_zero, sum_empty, zero_mul, add_zero, engineAfter]
  | succ k ih =>
    calc (engineAfter e (k + 1)).toNat
        ≡ pcgMul.toNat * (engineAfter e k).toNat + pcgInc.toNat [MOD 2 ^ 128] := advance_modEq _
      _ ≡ pcgMul.toNat * (e.toNat + (∑ i ∈ range k, pcgMul.toNat ^ i) * firstMove e) + pcgInc.toNat
          [MOD 2 ^ 128] :=
        (ih.mul_left _).add_right _
      _ = e.toNat + (∑ i ∈ range (k + 1), pcgMul.toNat ^ i) * firstMove e := by
        rw [geom_sum_succ]
        linarith [add_firstMove e]

/-! ## The period of a state -/

theorem engineAfter_eq_iterate (e : Engine) (k : ℕ) : engineAfter e k = advance^[k] e := by
  induction k with
  | zero => rfl
  | succ k ih => rw [iterate_succ_apply', ← ih, engineAfter]

/-- A state comes back exactly after the multiples of `2^128` draws: its first move is odd, so it is the sum of powers
that has to vanish modulo `2^128`. -/
theorem engineAfter_eq_self_iff (e : Engine) (k : ℕ) : engineAfter e k = e ↔ 2 ^ 128 ∣ k := by
  have hcop : Nat.Coprime (2 ^ 128) (firstMove e) := (odd_firstMove e).coprime_two_left.pow_left 128
  calc engineAfter e k = e
      ↔ (engineAfter e k).toNat ≡ e.toNat [MOD 2 ^ 128] :=
        ⟨fun h => by rw [h], fun h => BitVec.eq_of_toNat_eq (h.eq_of_lt_of_lt (BitVec.isLt _) e.isLt)⟩
    _ ↔ e.toNat + (∑ i ∈ range k, pcgMul.toNat ^ i) * firstMove e ≡ e.toNat [MOD 2 ^ 128] :=
        ⟨(engineAfter_modEq e k).symm.trans, (engineAfter_modEq e k).trans⟩
    _ ↔ 2 ^ 128 ∣ (∑ i ∈ range k, pcgMul.toNat ^ i) * firstMove e := Nat.add_modEq_left_iff
    _ ↔ 2 ^ 128 ∣ ∑ i ∈ range k, pcgMul.toNat ^ i := hcop.dvd_mul_right
    _ ↔ 2 ^ 128 ∣ k := two_pow_dvd_geom_sum_iff (by decide) (by decide) 128 k

theorem minimalPeriod_advance (e : Engine) : minimalPeriod advance e = 2 ^ 128 := by
  have hperiod (k : ℕ) : minimalPeriod advance e ∣ k ↔ 2 ^ 128 ∣ k := by
    rw [← isPeriodicPt_iff_minimalPeriod_dvd, ← engineAfter_eq_self_iff e, engineAfter_eq_iterate]
    rfl
  exact Nat.dvd_antisymm ((hperiod _).mpr dvd_rfl) ((hperiod _).mp dvd_rfl)

/-- Within one period no state comes twice. -/
theorem engineAfter_toNat_injective (e : Engine) : Injective fun i : Engine => engineAfter e i.toNat := by
  intro i j hij
  have hlt (i : Engine) : i.toNat ∈ Set.Iio (minimalPeriod advance e) := (minimalPeriod_advance e).symm ▸ i.isLt
  simp only [engineAfter_eq_iterate] at hij
  exact BitVec.eq_of_toNat_eq (iterate_injOn_Iio_minimalPeriod (hlt i) (hlt j) hij)

end Sys2Proof.Machine

namespace Sys2Proof.Proofs

open Sys2Proof Sys2Proof.Machine

/-- Settles O13: the `2^128` states met from `e` are all different (`engineAfter_toNat_injective`), so there are no
others. -/
theorem engineIsASingleCycle : Obligations.EngineIsASingleCycle := by
  intro e f
  obtain ⟨k, hk⟩ := Finite.surjective_of_injective (engineAfter_toNat_injective e) f
  exact ⟨k.toNat, k.isLt, hk⟩

end Sys2Proof.Proofs
end

section
/-! `SEED` and the runs that follow it (R33, R81, R86): two instances in the same state stay in the same state under any
moves, and `SEED` puts any two instances with the same channels in the same state. -/

namespace Sys2Proof.Machine

/-! ## The host's moves -/

section

variable {s t : State}

theorem SameState.present (h : SameState s t) (w : CommandWord) : SameState (s.present w) (t.present w) := by
  obtain ⟨hseeded, hregs, hcmd, hdin, hout⟩ := h
  exact ⟨hseeded, hregs, congrArg (· ++ _) hcmd, hdin, hout⟩

theorem SameState.supply (h : SameState s t) (bytes : List Byte) : SameState (s.supply bytes) (t.supply bytes) := by
  obtain ⟨hseeded, hregs, hcmd, hdin, hout⟩ := h
  exact ⟨hseeded, hregs, hcmd, congrArg (· ++ _) hdin, hout⟩

theorem SameState.takeOut (h : SameState s t) : SameState s.takeOut t.takeOut := by
  obtain ⟨hseeded, hregs, hcmd, hdin, hout⟩ := h
  exact ⟨hseeded, hregs, hcmd, hdin, congrArg List.tail hout⟩

/-! ## The step -/

/-- A step does the same in two instances in the same state (R33, R67). -/
theorem SameState.stepWith (h : SameState s t) (par : Parameters) : SameOutcome (stepWith par s) (stepWith par t) := by
  have ⟨_, _, hcmd, _, _⟩ := h
  unfold Machine.stepWith performNext
  rw [← hcmd]
  split
  · exact h
  · split
    · exact h.execWith par _
    · exact h.afterError _

/-! ## Runs -/

/-- Two runs that begin with a step either stop there together or go on from what the step left. -/
theorem perform_step_same {next : State → Host.Outcome State Fault Refusal} {moves : List Move}
    (hstep : SameOutcome (next s) (next t))
    (hrest : ∀ s' t', SameState s' t' → SameOutcome (perform next moves s') (perform next moves t')) :
    SameOutcome (perform next (.step :: moves) s) (perform next (.step :: moves) t) := by
  unfold perform
  generalize next s = o, next t = p at hstep
  match o, p, hstep with
  | .next s', .next t', h => exact hrest s' t' h
  | .fault _, .fault _, h => exact h
  | .refused _, .refused _, h => exact h

/-- Any run has the same outcome from two instances in the same state. -/
theorem SameState.perform (h : SameState s t) (par : Parameters) (moves : List Move) :
    SameOutcome (perform (Machine.stepWith par) moves s) (perform (Machine.stepWith par) moves t) := by
  induction moves generalizing s t with
  | nil => exact h
  | cons move moves ih =>
    cases move with
    | present w => exact ih (h.present w)
    | supply bytes => exact ih (h.supply bytes)
    | take => exact ih h.takeOut
    | step => exact perform_step_same (h.stepWith par) fun _ _ => ih

end

/-- `perform` over `step` is `perform` over the step with the default parameters. -/
theorem perform_default (moves : List Move) (s : State) :
    perform step moves s = perform (stepWith defaultParameters) moves s := by
  rw [funext step_eq_stepWith]

/-! ## `SEED` (R81) -/

/-- The concatenation of a word with itself, as a number. -/
theorem append_self_eq (a : Word) : a ++ a = BitVec.ofNat 128 (a.toNat * 2 ^ 64 + a.toNat) := by
  apply BitVec.eq_of_toNat_eq
  have ha := a.isLt
  rw [BitVec.toNat_append, ← Nat.shiftLeft_add_eq_or_of_lt ha, Nat.shiftLeft_eq, BitVec.toNat_ofNat,
    Nat.mod_eq_of_lt (by omega)]

/-- The step on a `SEED` reads nothing of the state but its channels (R81, R86). -/
theorem stepWith_seed {s : State} {a : Word} {rest : List CommandWord} (hcmd : s.CMD = encode (.seed a) :: rest)
    (par : Parameters) :
    stepWith par s = .next { s with
      S := a ++ a, RDV := 0#64, RDC := 0#3, SEEDED := true, CMD := rest, OUT := s.OUT ++ [.rsp ⟨.ok, 0#64⟩] } := by
  rw [stepWith, performNext_of_decode hcmd (decode_eq_ok_iff.mpr rfl), execWith_seed, execSeed_eq, hcmd, List.tail_cons]

/-- Whatever two instances held, after a `SEED` they are in the same state and their runs have the same outcome. -/
theorem perform_seed_same {s t : State} {a : Word} {rest : List CommandWord} (hs : s.CMD = encode (.seed a) :: rest)
    (ht : t.CMD = encode (.seed a) :: rest) (hdin : s.DIN = t.DIN) (hout : s.OUT = t.OUT) (par : Parameters)
    (moves : List Move) :
    SameOutcome (perform (stepWith par) (.step :: moves) s) (perform (stepWith par) (.step :: moves) t) := by
  rw [perform_step (stepWith_seed hs par), perform_step (stepWith_seed ht par)]
  refine SameState.perform ?_ par moves
  exact ⟨rfl, fun _ => ⟨rfl, rfl, rfl⟩, rfl, hdin, congrArg (· ++ _) hout⟩

end Sys2Proof.Machine

namespace Sys2Proof.Proofs

open Sys2Proof Sys2Proof.Machine

/-- Settles O14: after the first step both instances are in the same state (`perform_seed_same`), and instances in the
same state have the same runs. -/
theorem reseedForgetsThePast : Obligations.ReseedForgetsThePast := by
  intro a rest s t hs ht hdin hout moves
  refine ⟨?_, fun par => perform_seed_same hs ht hdin hout par moves⟩
  rw [perform_default, perform_default]
  exact perform_seed_same hs ht hdin hout defaultParameters moves

/-- Settles O11: `SEED` concatenates its operand with itself (`append_self_eq`) and writes nothing else than the
statement says. -/
theorem seedWritesTheState : Obligations.SeedWritesTheState := by
  intro a s
  rw [exec_seed, execSeed_eq, append_self_eq]
  exact ⟨decode_eq_ok_iff.mpr rfl, rfl⟩

end Sys2Proof.Proofs
end

section
/-! The integer derivation layer (R90 to R95): a slice of bits is a quotient and a remainder, and each command answers the
slice of one raw word that its derivation keeps. -/

namespace Sys2Proof.Machine

/-- A run of bits, read as a number (R7). -/
theorem slice_eq_div_mod {w : Nat} (v : BitVec w) (hi lo : Nat) :
    slice v hi lo = v.toNat / 2 ^ lo % 2 ^ (hi + 1 - lo) := by
  rw [slice, BitVec.extractLsb'_toNat, Nat.shiftRight_eq_div_pow]

/-! ## The derivations of the default engine (R90) -/

/-- No bit stands above bit 63, so the quotient alone is the slice. -/
theorem drawU32_nextWord (e : Engine) :
    drawU32 nextWord e = ((rawWord e 0).toNat / 2 ^ 32, engineAfter e 1) := by
  have hhigh : (rawWord e 0).toNat / 2 ^ 32 < 2 ^ 32 := Nat.div_lt_of_lt_mul (rawWord e 0).isLt
  have hslice : slice (rawWord e 0) 63 32 = (rawWord e 0).toNat / 2 ^ 32 := by
    rw [slice_eq_div_mod, Nat.mod_eq_of_lt hhigh]
  exact congrArg (·, engineAfter e 1) hslice

theorem drawI63_nextWord (e : Engine) :
    drawI63 nextWord e = ((rawWord e 0).toNat % 2 ^ 63, engineAfter e 1) := by
  have hslice : slice (rawWord e 0) 62 0 = (rawWord e 0).toNat % 2 ^ 63 := by
    rw [slice_eq_div_mod, Nat.pow_zero, Nat.div_one]
  exact congrArg (·, engineAfter e 1) hslice

theorem drawI31_nextWord (e : Engine) :
    drawI31 nextWord e = ((rawWord e 0).toNat / 2 ^ 32 % 2 ^ 31, engineAfter e 1) :=
  congrArg (·, engineAfter e 1) (slice_eq_div_mod (rawWord e 0) 62 32)

/-! ## The commands -/

/-- Once seeded, a command that draws one value answers it and keeps the engine state that the draw leaves (R64, R206). -/
theorem drawCommand_seeded {s : State} (h : s.SEEDED = true) {d : Nat × Engine} {n : Nat} {e : Engine} (hd : d = (n, e)) :
    withSeed s (answerDraw d s) = .next (s.afterDraws e (word n)) := by
  rw [withSeed_seeded h, answerDraw_eq, hd]

end Sys2Proof.Machine

namespace Sys2Proof.Proofs

open Sys2Proof Sys2Proof.Machine

/-- Settles O15: each command answers what its derivation draws (`drawCommand_seeded`), which is its slice of the one raw
word drawn (`drawU32_nextWord`, `drawI63_nextWord`, `drawI31_nextWord`); unseeded, it is turned away. -/
theorem derivedIntegersAreSlices : Obligations.DerivedIntegersAreSlices := by
  intro a s
  refine ⟨?decoded, fun hseeded => ?seeded, fun hunseeded => ?unseeded⟩
  case decoded =>
    exact ⟨decode_eq_ok_iff.mpr rfl, decode_eq_ok_iff.mpr rfl, decode_eq_ok_iff.mpr rfl, decode_eq_ok_iff.mpr rfl⟩
  case seeded =>
    exact ⟨drawCommand_seeded hseeded (drawU32_nextWord s.S), drawCommand_seeded hseeded (drawI63_nextWord s.S),
      drawCommand_seeded hseeded (drawI31_nextWord s.S), drawCommand_seeded hseeded (drawI63_nextWord s.S)⟩
  case unseeded =>
    exact ⟨withSeed_unseeded hunseeded _, withSeed_unseeded hunseeded _, withSeed_unseeded hunseeded _,
      withSeed_unseeded hunseeded _⟩

end Sys2Proof.Proofs
end

section
/-! The threshold M of the bounded sampler (R101, R102): the largest multiple of the bound not above `2^W`, so that every
residue has the same number of accepted draws. -/

namespace Sys2Proof.Machine

section

variable {n W : Nat}

/-- The multiple of n below `2^W`, by quotient and remainder. -/
theorem threshold_eq_div_mul (n W : Nat) : threshold n W = 2 ^ W / n * n :=
  Nat.div_mul_self_eq_mod_sub_self.symm

/-- Some draw is accepted. -/
theorem threshold_pos (hn : 0 < n) (hnW : n ≤ 2 ^ W) : 0 < threshold n W := by
  rw [threshold_eq_div_mul]
  exact Nat.mul_pos (Nat.div_pos hnW hn) hn

/-- For a power of two every draw is accepted. -/
theorem threshold_of_dvd (h : n ∣ 2 ^ W) : threshold n W = 2 ^ W := by
  rw [threshold, Nat.mod_eq_zero_of_dvd h, Nat.sub_zero]

/-- The test of R101 on the mathematical value n: only a power of two shares no bit with its predecessor. -/
theorem and_pred_eq_zero_iff (hn : 0 < n) : n &&& (n - 1) = 0 ↔ ∃ j, n = 2 ^ j :=
  Nat.and_sub_one_eq_zero_iff_isPowerOfTwo hn.ne'

/-- A bound that is no power of two does not divide `2^W`. -/
theorem not_dvd_two_pow (h : ∀ j, n ≠ 2 ^ j) : ¬ n ∣ 2 ^ W := by
  intro hdvd
  obtain ⟨j, _, hj⟩ := (Nat.dvd_prime_pow Nat.prime_two).mp hdvd
  exact h j hj

/-- The two readings of "the width's range" give the same quotient, so the same M (R102). -/
theorem two_pow_sub_one_div (h : ¬ n ∣ 2 ^ W) : (2 ^ W - 1) / n = 2 ^ W / n := by
  have hsucc : 2 ^ W - 1 + 1 = 2 ^ W := Nat.sub_add_cancel Nat.one_le_two_pow
  rw [← Nat.succ_div_of_not_dvd (hsucc ▸ h), hsucc]

/-- Less than half of `2^W` is left over by a bound not above it. -/
theorem two_mul_two_pow_mod_lt (hn : 0 < n) (hnW : n ≤ 2 ^ W) : 2 * (2 ^ W % n) < 2 ^ W := by
  have hlt : 2 ^ W % n < n := Nat.mod_lt _ hn
  have hle : 2 ^ W % n ≤ 2 ^ W - n := Nat.mod_eq_sub_mod hnW ▸ Nat.mod_le _ _
  omega

/-- Below a multiple of n every residue is met equally often. -/
theorem card_filter_mod_eq {m r : Nat} (hm : n ∣ m) (hr : r < n) :
    ((Finset.range m).filter (fun v => v % n = r)).card = m / n := by
  have hcount := Nat.count_modEq_card m (Nat.zero_lt_of_lt hr) r
  rw [Nat.mod_eq_zero_of_dvd hm, if_neg (Nat.not_lt_zero _), Nat.add_zero, Nat.count_eq_card_filter_range] at hcount
  simpa only [Nat.ModEq, Nat.mod_eq_of_lt hr] using hcount

end

end Sys2Proof.Machine

namespace Sys2Proof.Proofs

open Sys2Proof Sys2Proof.Machine

/-- Settles O20: M is a multiple of n (`threshold_eq_div_mul`), below which the residues are spread evenly
(`card_filter_mod_eq`); no power of two is a multiple of n, which makes the two readings of the source agree and M fall
short of `2^W`. -/
theorem thresholdLeavesNoModuloBias : Obligations.ThresholdLeavesNoModuloBias := by
  intro n W hn hnW hpow
  have hle : n ≤ 2 ^ W := hnW.trans (Nat.sub_le _ _)
  have hndvd : ¬ n ∣ 2 ^ W := not_dvd_two_pow hpow
  have hmul := threshold_eq_div_mul n W
  have hdvd : n ∣ threshold n W := hmul ▸ Nat.dvd_mul_left _ _
  have hrest : 0 < 2 ^ W % n := Nat.pos_of_ne_zero fun h => hndvd (Nat.dvd_of_mod_eq_zero h)
  have hbelow : threshold n W < 2 ^ W := Nat.sub_lt (by positivity) hrest
  exact ⟨hdvd, hmul, two_pow_sub_one_div hndvd ▸ hmul, threshold_pos hn hle, hbelow, two_mul_two_pow_mod_lt hn hle,
    fun r hr => card_filter_mod_eq hdvd hr, (Nat.mod_eq_sub_mod hle).symm⟩

end Sys2Proof.Proofs
end

section
/-! The bounded sampler of the default engine (R101 to R108): the redraw loop takes the first draw below M, and one comes
within `2^128` draws, because the single cycle of the engine passes through the state whose word is zero. -/

namespace Sys2Proof.Machine

/-! ## The sequence of raw words -/

theorem engineAfter_one_add (e : Engine) (k : Nat) : engineAfter (engineAfter e 1) k = engineAfter e (k + 1) := by
  rw [engineAfter_eq_iterate, engineAfter_eq_iterate e (k + 1), Function.iterate_succ_apply, engineAfter, engineAfter]

/-- The words after the first one are those of the state that the first draw leaves. -/
theorem rawWord_engineAfter_one (e : Engine) (k : Nat) : rawWord (engineAfter e 1) k = rawWord e (k + 1) := by
  rw [rawWord, engineAfter_one_add, rawWord]

/-- From every state the zero word comes within `2^128` draws: the engine passes through state 0 (R84), whose output
is 0. -/
theorem exists_rawWord_eq_zero (e : Engine) : ∃ k, k < 2 ^ 128 ∧ rawWord e k = 0#64 := by
  obtain ⟨k, hk, hzero⟩ := Proofs.engineIsASingleCycle (engineAfter e 1) 0#128
  refine ⟨k, hk, ?_⟩
  rw [rawWord, ← engineAfter_one_add, hzero]
  decide

/-! ## Draws that derive their value from one raw word (R90, R95) -/

/-- `draw` keeps the value `f u` of one raw word u; it fits in W bits, and the zero word gives 0. -/
structure DerivesFromOneWord (W : Nat) (f : Word → Nat) (draw : Engine → Nat × Engine) : Prop where
  draw_eq (e : Engine) : draw e = (f (rawWord e 0), engineAfter e 1)
  value_lt (u : Word) : f u < 2 ^ W
  value_zero : f 0#64 = 0

theorem drawU64_derives : DerivesFromOneWord 64 (fun u => u.toNat) (drawU64 nextWord) where
  draw_eq _ := rfl
  value_lt u := u.isLt
  value_zero := rfl

theorem drawI63_derives : DerivesFromOneWord 63 (fun u => u.toNat % 2 ^ 63) (drawI63 nextWord) where
  draw_eq := drawI63_nextWord
  value_lt _ := Nat.mod_lt _ (by decide)
  value_zero := rfl

theorem drawU32_derives : DerivesFromOneWord 32 (fun u => u.toNat / 2 ^ 32) (drawU32 nextWord) where
  draw_eq := drawU32_nextWord
  value_lt u := Nat.div_lt_of_lt_mul u.isLt
  value_zero := rfl

theorem drawI31_derives : DerivesFromOneWord 31 (fun u => u.toNat / 2 ^ 32 % 2 ^ 31) (drawI31 nextWord) where
  draw_eq := drawI31_nextWord
  value_lt _ := Nat.mod_lt _ (by decide)
  value_zero := rfl

section

variable {n m k W : Nat} {f : Word → Nat} {draw : Engine → Nat × Engine}

/-! ## The first accepted draw -/

/-- Behind a rejected draw the first one below M is the first of the rest. -/
theorem FirstBelow.tail {v : Nat → Nat} (h : FirstBelow m v (k + 1)) : FirstBelow m (fun i => v (i + 1)) k :=
  ⟨fun i hi => h.1 (i + 1) (Nat.succ_lt_succ hi), h.2⟩

/-- A draw below a positive M comes from every state: the zero word gives one. -/
theorem DerivesFromOneWord.exists_firstBelow (hd : DerivesFromOneWord W f draw) (hm : 0 < m) (e : Engine) :
    ∃ k, FirstBelow m (fun i => f (rawWord e i)) k := by
  obtain ⟨j, _, hj⟩ := exists_rawWord_eq_zero e
  have hex : ∃ k, f (rawWord e k) < m := ⟨j, by rwa [hj, hd.value_zero]⟩
  exact ⟨Nat.find hex, fun i hi => not_lt.mp (Nat.find_min hex hi), Nat.find_spec hex⟩

/-- It comes well before the bound to which the model follows a loop (R238). -/
theorem DerivesFromOneWord.firstBelow_lt_loopBound (hd : DerivesFromOneWord W f draw) {e : Engine}
    (h : FirstBelow m (fun i => f (rawWord e i)) k) : k < Config.loopBound := by
  obtain ⟨hbefore, hk⟩ := h
  obtain ⟨j, hj, hzero⟩ := exists_rawWord_eq_zero e
  have hkj : k ≤ j := by
    by_contra hjk
    have hmj : m ≤ f (rawWord e j) := hbefore j (not_le.mp hjk)
    rw [hzero, hd.value_zero] at hmj
    omega
  have hbound : 2 ^ 128 < Config.loopBound := by decide
  omega

/-- The redraw loop ends at the first draw below M (R101): an iteration that rejects goes on to the rest of the
sequence. -/
theorem DerivesFromOneWord.runLoop_redrawStep (hd : DerivesFromOneWord W f draw) {e : Engine}
    (h : FirstBelow m (fun i => f (rawWord e i)) k) :
    runLoop (redrawStep draw m) (k + 1) e = some (f (rawWord e k), engineAfter e (k + 1)) := by
  induction k generalizing e with
  | zero =>
    apply runLoop_done
    rw [redrawStep, hd.draw_eq, if_pos h.2]
  | succ k ih =>
    have hreject : redrawStep draw m e = .again (engineAfter e 1) := by
      rw [redrawStep, hd.draw_eq, if_neg (not_lt.mpr (h.1 0 k.succ_pos))]
    have hrest : FirstBelow m (fun i => f (rawWord (engineAfter e 1) i)) k := by
      simpa only [rawWord_engineAfter_one] using h.tail
    rw [runLoop_again hreject, ih hrest, rawWord_engineAfter_one, engineAfter_one_add]

/-! ## The sampler -/

/-- Both paths of R101 are one: a power of two accepts its first draw, and its mask is the reduction modulo n. -/
theorem DerivesFromOneWord.bounded_eq (hd : DerivesFromOneWord W f draw) (hn : 0 < n) (hnW : n < 2 ^ W) {e : Engine}
    (h : FirstBelow (threshold n W) (fun i => f (rawWord e i)) k) :
    bounded n W draw e = some (f (rawWord e k) % n, engineAfter e (k + 1)) := by
  unfold bounded
  split
  case isTrue hpow =>
    obtain ⟨j, rfl⟩ := (and_pred_eq_zero_iff hn).mp hpow
    have hall : threshold (2 ^ j) W = 2 ^ W :=
      threshold_of_dvd (Nat.pow_dvd_pow 2 (Nat.pow_lt_pow_iff_right (by decide) |>.mp hnW).le)
    obtain ⟨hbefore, _⟩ := h
    have hk : k = 0 := by
      by_contra hk
      have hrejected : 2 ^ W ≤ f (rawWord e 0) := hall ▸ hbefore 0 (Nat.pos_of_ne_zero hk)
      exact absurd (hd.value_lt (rawWord e 0)) (not_lt.mpr hrejected)
    rw [hk, hd.draw_eq, Nat.and_two_pow_sub_one_eq_mod]
  case isFalse =>
    rw [runLoop_mono (hd.runLoop_redrawStep h) (hd.firstBelow_lt_loopBound h)]

/-! ## The bounded commands -/

/-- Once seeded, a positive bound is answered with what the sampler draws (R103). -/
theorem boundedCommand_of_bounded {s : State} (hs : s.SEEDED = true) (hn : 0 < n) {v : Nat} {e : Engine}
    (h : bounded n W draw s.S = some (v, e)) :
    boundedCommand n W draw s = .next (s.afterDraws e (word v)) := by
  rw [boundedCommand, withSeed_seeded hs, if_neg (by omega), Int.toNat_natCast, h]
  exact answerDraw_eq (v, e) s

theorem DerivesFromOneWord.boundedCommand_eq (hd : DerivesFromOneWord W f draw) {s : State} (hs : s.SEEDED = true)
    (hn : 0 < n) (hnW : n < 2 ^ W) (h : FirstBelow (threshold n W) (fun i => f (rawWord s.S i)) k) :
    boundedCommand n W draw s = .next (s.afterDraws (engineAfter s.S (k + 1)) (word (f (rawWord s.S k) % n))) :=
  boundedCommand_of_bounded hs hn (hd.bounded_eq hn hnW h)

/-- Every positive bound that fits the width is answered, with a value below it (R108). -/
theorem DerivesFromOneWord.boundedCommand_answers (hd : DerivesFromOneWord W f draw) {s : State} (hs : s.SEEDED = true)
    (hn : 0 < n) (hnW : n < 2 ^ W) :
    ∃ e r, boundedCommand n W draw s = .next (s.afterDraws e r) ∧ r.toNat < n := by
  obtain ⟨k, hk⟩ := hd.exists_firstBelow (threshold_pos hn hnW.le) s.S
  refine ⟨_, _, hd.boundedCommand_eq hs hn hnW hk, ?_⟩
  rw [word_toNat]
  exact (Nat.mod_le _ _).trans_lt (Nat.mod_lt _ hn)

end

/-! ## The bounds that the commands read (R63, R103 to R107) -/

section

variable {a : Word}

theorem signed64_of_lt (h : a.toNat < 2 ^ 63) : signed64 a = a.toNat :=
  BitVec.toInt_eq_toNat_of_lt (by omega)

theorem unsigned32_eq (a : Word) : unsigned32 a = a.toNat % 2 ^ 32 := by
  rw [unsigned32, BitVec.extractLsb'_toNat, Nat.shiftRight_zero]

theorem signed32_of_lt (h : a.toNat % 2 ^ 32 < 2 ^ 31) : signed32 a = (a.toNat % 2 ^ 32 : Nat) := by
  rw [← unsigned32_eq, unsigned32] at h ⊢
  exact BitVec.toInt_eq_toNat_of_lt (by omega)

theorem exec_u64n_eq (a : Word) (s : State) :
    exec (.u64n a) s = boundedCommand a.toNat 64 (drawU64 nextWord) s := rfl

theorem exec_i63n_eq (h : a.toNat < 2 ^ 63) (s : State) :
    exec (.i63n a) s = boundedCommand a.toNat 63 (drawI63 nextWord) s := by
  rw [exec_i63n, execI63N, i63nWith, signed64_of_lt h, defaultParameters_step]

/-- `INTN` is `I63N` under another opcode (R107). -/
theorem exec_intn_eq_i63n (a : Word) (s : State) : exec (.intn a) s = exec (.i63n a) s := rfl

theorem exec_u32n_eq (a : Word) (s : State) :
    exec (.u32n a) s = boundedCommand (a.toNat % 2 ^ 32 : Nat) 32 (drawU32 nextWord) s := by
  rw [exec_u32n, execU32N, u32nWith, unsigned32_eq, defaultParameters_step]

theorem exec_i31n_eq (h : a.toNat % 2 ^ 32 < 2 ^ 31) (s : State) :
    exec (.i31n a) s = boundedCommand (a.toNat % 2 ^ 32 : Nat) 31 (drawI31 nextWord) s := by
  rw [exec_i31n, execI31N, i31nWith, signed32_of_lt h, defaultParameters_step]

end

end Sys2Proof.Machine

namespace Sys2Proof.Proofs

open Sys2Proof Sys2Proof.Machine

/-- Settles O19: the engine comes by the zero word, so some draw is below M (`boundedCommand_answers`), and each command
is the sampler at its width. -/
theorem boundedCommandsAnswerBelowTheBound : Obligations.BoundedCommandsAnswerBelowTheBound := by
  intro a s hs
  refine ⟨fun hn => ?u64n, fun hn hlt => ?signed63, fun hn => ?u32n, fun hn hlt => ?i31n⟩
  case u64n =>
    rw [exec_u64n_eq]
    exact drawU64_derives.boundedCommand_answers hs hn a.isLt
  case signed63 =>
    rw [exec_intn_eq_i63n, and_self, exec_i63n_eq hlt]
    exact drawI63_derives.boundedCommand_answers hs hn hlt
  case u32n =>
    rw [exec_u32n_eq]
    exact drawU32_derives.boundedCommand_answers hs hn (Nat.mod_lt _ (by decide))
  case i31n =>
    rw [exec_i31n_eq hlt]
    exact drawI31_derives.boundedCommand_answers hs hn hlt

/-- Settles O16: the commands are the sampler at the widths 64 and 32, which answers the first draw below M
(`boundedCommand_eq`). -/
theorem unsignedBoundsTakeTheFirstAcceptedDraw : Obligations.UnsignedBoundsTakeTheFirstAcceptedDraw := by
  intro a s k hs
  refine ⟨fun hn hfirst => ?u64n, fun hn hfirst => ?u32n⟩
  case u64n =>
    rw [exec_u64n_eq]
    exact drawU64_derives.boundedCommand_eq hs (Nat.pos_of_ne_zero hn) a.isLt hfirst
  case u32n =>
    rw [exec_u32n_eq]
    exact drawU32_derives.boundedCommand_eq hs (Nat.pos_of_ne_zero hn) (Nat.mod_lt _ (by decide)) hfirst

/-- Settles O17: in their positive range the signed bounds are natural numbers (`signed64_of_lt`, `signed32_of_lt`), and
the commands are the sampler at the widths 63 and 31. -/
theorem signedBoundsTakeTheFirstAcceptedDraw : Obligations.SignedBoundsTakeTheFirstAcceptedDraw := by
  intro a s k hs
  refine ⟨fun hn hlt hfirst => ?signed63, fun hn hlt hfirst => ?i31n⟩
  case signed63 =>
    rw [exec_intn_eq_i63n, and_self, exec_i63n_eq hlt]
    exact drawI63_derives.boundedCommand_eq hs hn hlt hfirst
  case i31n =>
    rw [exec_i31n_eq hlt]
    exact drawI31_derives.boundedCommand_eq hs hn hlt hfirst

end Sys2Proof.Proofs
end

section
/-! The float constructor (R115 to R118): the pattern it builds has the multiple of `2^-(F+1)` as its exact value, because
the shift that fills the significand is taken back by the exponent. -/

namespace Sys2Proof.Machine

/-- The bits of a word from `lo` up: no bit stands above bit 63, so the quotient alone is the slice. -/
theorem slice_63_eq_div (u : Word) {lo : Nat} (hlo : lo < 64) : slice u 63 lo = u.toNat / 2 ^ lo := by
  have hsplit : 2 ^ lo * 2 ^ (64 - lo) = 2 ^ 64 := by rw [← Nat.pow_add, Nat.add_sub_cancel' hlo.le]
  rw [slice_eq_div_mod, Nat.mod_eq_of_lt (Nat.div_lt_of_lt_mul (hsplit ▸ u.isLt))]

/-! ## The exact construction (R118) -/

section

variable {F bias m : Nat}

theorem scaledFloat_zero : scaledFloat F bias 0 = 0 := if_pos rfl

/-- The leading one of m is moved to bit F of the significand. -/
theorem mul_two_pow_log2_bounds (hm : m ≠ 0) (hlt : m < 2 ^ (F + 1)) :
    2 ^ F ≤ m * 2 ^ (F - m.log2) ∧ m * 2 ^ (F - m.log2) < 2 ^ (F + 1) := by
  have hlog : m.log2 < F + 1 := (Nat.log2_lt hm).mpr hlt
  constructor
  · calc 2 ^ F = 2 ^ m.log2 * 2 ^ (F - m.log2) := by rw [← Nat.pow_add]; congr 1; omega
      _ ≤ m * 2 ^ (F - m.log2) := Nat.mul_le_mul_right _ (Nat.log2_self_le hm)
  · calc m * 2 ^ (F - m.log2) < 2 ^ (m.log2 + 1) * 2 ^ (F - m.log2) :=
          Nat.mul_lt_mul_of_pos_right Nat.lt_log2_self (Nat.two_pow_pos _)
      _ = 2 ^ (F + 1) := by rw [← Nat.pow_add]; congr 1; omega

/-- A number that is not zero gets a normal pattern below that of 1.0, of biased exponent `e + 1` and significand k, whose
leading one `e * 2^F + k` carries into the exponent; nothing of its value is lost. -/
theorem exists_place_scaledFloat (hm : m ≠ 0) (hlt : m < 2 ^ (F + 1)) (hbias : F + 1 < bias) :
    ∃ e k, scaledFloat F bias m = e * 2 ^ F + k ∧ 2 ^ F ≤ k ∧ k < 2 ^ (F + 1) ∧ e + 2 ≤ bias ∧
      k * 2 ^ (e + 1) = m * 2 ^ (bias - 1) := by
  obtain ⟨hlow, hhigh⟩ := mul_two_pow_log2_bounds hm hlt
  have hlog : m.log2 < F + 1 := (Nat.log2_lt hm).mpr hlt
  obtain ⟨e, he⟩ : ∃ e, bias - (F + 1) + m.log2 = e + 1 := ⟨bias - (F + 2) + m.log2, by omega⟩
  refine ⟨e, m * 2 ^ (F - m.log2), ?pattern, hlow, hhigh, by omega, ?value⟩
  case pattern =>
    have hfrac : m * 2 ^ (F - m.log2) % 2 ^ F = m * 2 ^ (F - m.log2) - 2 ^ F := by
      rw [Nat.mod_eq_sub_mod hlow, Nat.mod_eq_of_lt (by omega)]
    rw [scaledFloat, if_neg hm, he, hfrac, Nat.succ_mul, Nat.add_assoc, Nat.add_sub_cancel' hlow]
  case value =>
    rw [Nat.mul_assoc, ← Nat.pow_add]
    congr 2
    omega

/-- The pattern is below that of 1.0, whose exponent is the bias and whose fraction is zero (R115, R119). -/
theorem scaledFloat_lt (hlt : m < 2 ^ (F + 1)) (hbias : F + 1 < bias) : scaledFloat F bias m < bias * 2 ^ F := by
  rcases eq_or_ne m 0 with rfl | hm
  · rw [scaledFloat_zero]
    exact Nat.mul_pos (by omega) (Nat.two_pow_pos F)
  · obtain ⟨e, k, hpattern, -, hk, he, -⟩ := exists_place_scaledFloat hm hlt hbias
    calc scaledFloat F bias m = e * 2 ^ F + k := hpattern
      _ < e * 2 ^ F + 2 ^ (F + 1) := Nat.add_lt_add_left hk _
      _ = (e + 2) * 2 ^ F := by ring
      _ ≤ bias * 2 ^ F := Nat.mul_le_mul_right _ he

end

/-! ## The binary64 pattern (R116) -/

section

variable {m : Nat}

theorem f64OfBits53_lt (hm : m < 2 ^ 53) : f64OfBits53 m < 1023 * 2 ^ 52 := scaledFloat_lt hm (by decide)

/-- A result is a pattern of sign 0. -/
theorem word_eq_f64Pack (n : Nat) : word n = f64Pack false n := by
  rw [f64Pack, if_neg Bool.false_ne_true, Nat.zero_add, word]

theorem toNat_word_f64OfBits53 (hm : m < 2 ^ 53) : (word (f64OfBits53 m)).toNat = f64OfBits53 m := by
  have := f64OfBits53_lt hm
  rw [word_toNat, Nat.mod_eq_of_lt (by omega)]

theorem f64Mag_word_f64OfBits53 (hm : m < 2 ^ 53) : f64Mag (word (f64OfBits53 m)) = f64OfBits53 m := by
  have := f64OfBits53_lt hm
  rw [word_eq_f64Pack, f64Mag_pack _ (by omega)]

theorem f64Sign_word_f64OfBits53 (hm : m < 2 ^ 53) : f64Sign (word (f64OfBits53 m)) = false := by
  have := f64OfBits53_lt hm
  rw [word_eq_f64Pack, f64Sign_pack _ (by omega)]

theorem f64IsFinite_word_f64OfBits53 (hm : m < 2 ^ 53) : f64IsFinite (word (f64OfBits53 m)) = true := by
  have := f64OfBits53_lt hm
  rw [f64IsFinite_iff, f64Mag_word_f64OfBits53 hm]
  omega

/-- The binary64 is worth `m * 2^-53`; its units are `2^-1074`. -/
theorem f64Units_word_f64OfBits53 (hm : m < 2 ^ 53) : f64Units (word (f64OfBits53 m)) * 2 ^ 53 = m * 2 ^ 1074 := by
  rw [f64Units_eq, f64Mag_word_f64OfBits53 hm]
  rcases eq_or_ne m 0 with rfl | h₀
  · rw [f64OfBits53, scaledFloat_zero, magUnits_zero, Nat.zero_mul, Nat.zero_mul]
  · obtain ⟨e, k, hpattern, hlow, hhigh, -, hvalue⟩ := exists_place_scaledFloat (bias := 1023) h₀ hm (by decide)
    calc magUnits (f64OfBits53 m) * 2 ^ 53 = k * 2 ^ e * 2 ^ 53 := by
          rw [f64OfBits53, hpattern, magUnits_place hhigh.le (.inr hlow)]
      _ = k * 2 ^ (e + 1) * 2 ^ 52 := by ring
      _ = m * 2 ^ 1022 * 2 ^ 52 := by rw [hvalue]
      _ = m * 2 ^ 1074 := by rw [Nat.mul_assoc, show 1074 = 1022 + 52 from rfl, Nat.pow_add]

end

/-! ## The binary32 pattern (R117) -/

section

variable {m : Nat}

theorem f32OfBits24_lt (hm : m < 2 ^ 24) : f32OfBits24 m < 127 * 2 ^ 23 := scaledFloat_lt hm (by decide)

theorem toNat_word_f32OfBits24 (hm : m < 2 ^ 24) : (word (f32OfBits24 m)).toNat = f32OfBits24 m := by
  have := f32OfBits24_lt hm
  rw [word_toNat, Nat.mod_eq_of_lt (by omega)]

/-- A value that is not zero is a normal number worth `m * 2^-24`: exponent above zero, and significand times
`2^exponent` is `m * 2^126`. -/
theorem f32OfBits24_value (h₀ : m ≠ 0) (hm : m < 2 ^ 24) :
    0 < f32OfBits24 m / 2 ^ 23 ∧
      (2 ^ 23 + f32OfBits24 m % 2 ^ 23) * 2 ^ (f32OfBits24 m / 2 ^ 23) = m * 2 ^ 126 := by
  obtain ⟨e, k, hpattern, hlow, hhigh, -, hvalue⟩ := exists_place_scaledFloat (bias := 127) h₀ hm (by decide)
  have hexp : f32OfBits24 m / 2 ^ 23 = e + 1 := by rw [f32OfBits24, hpattern]; omega
  have hsig : 2 ^ 23 + f32OfBits24 m % 2 ^ 23 = k := by rw [f32OfBits24, hpattern]; omega
  rw [hexp, hsig]
  exact ⟨e.succ_pos, hvalue⟩

end

/-! ## The draws of the default engine -/

theorem drawF64_nextWord (e : Engine) :
    drawF64 nextWord e = (f64OfBits53 ((rawWord e 0).toNat / 2 ^ 11), engineAfter e 1) :=
  congrArg (f64OfBits53 ·, engineAfter e 1) (slice_63_eq_div (rawWord e 0) (by decide))

theorem drawF32_nextWord (e : Engine) :
    drawF32 nextWord e = (f32OfBits24 ((rawWord e 0).toNat / 2 ^ 40), engineAfter e 1) :=
  congrArg (f32OfBits24 ·, engineAfter e 1) (slice_63_eq_div (rawWord e 0) (by decide))

end Sys2Proof.Machine

namespace Sys2Proof.Proofs

open Sys2Proof Sys2Proof.Machine

/-- Settles O22: the answer is the pattern built from the top 53 bits of the one raw word drawn (`drawF64_nextWord`), which
is below that of 1.0 and exact (`f64Units_word_f64OfBits53`); unseeded, the command is turned away. -/
theorem uniformDoubleIsExact : Obligations.UniformDoubleIsExact := by
  intro a s
  refine ⟨decode_eq_ok_iff.mpr rfl, fun hseeded => ?seeded, fun hunseeded => withSeed_unseeded hunseeded _⟩
  case seeded =>
    have hm : (rawWord s.S 0).toNat / 2 ^ 11 < 2 ^ 53 := Nat.div_lt_of_lt_mul (rawWord s.S 0).isLt
    refine ⟨_, drawCommand_seeded hseeded (drawF64_nextWord s.S), f64Sign_word_f64OfBits53 hm,
      f64IsFinite_word_f64OfBits53 hm, f64Units_word_f64OfBits53 hm, fun hzero => ?zero, ?below⟩
    case zero => rw [hzero]; rfl
    case below => rw [toNat_word_f64OfBits53 hm]; exact f64OfBits53_lt hm

/-- Settles O23: the answer is the pattern built from the top 24 bits of the one raw word drawn (`drawF32_nextWord`), which
is below that of 1.0 and, unless they are zero, normal and exact (`f32OfBits24_value`); unseeded, the command is turned
away. -/
theorem uniformSingleIsExact : Obligations.UniformSingleIsExact := by
  intro a s
  refine ⟨decode_eq_ok_iff.mpr rfl, fun hseeded => ?seeded, fun hunseeded => withSeed_unseeded hunseeded _⟩
  case seeded =>
    have hm : (rawWord s.S 0).toNat / 2 ^ 40 < 2 ^ 24 := Nat.div_lt_of_lt_mul (rawWord s.S 0).isLt
    refine ⟨_, drawCommand_seeded hseeded (drawF32_nextWord s.S), ?below, fun hzero => ?zero, fun hnonzero => ?normal⟩
    case below => rw [toNat_word_f32OfBits24 hm]; exact f32OfBits24_lt hm
    case zero => rw [hzero]; rfl
    case normal => rw [toNat_word_f32OfBits24 hm]; exact f32OfBits24_value hnonzero hm

end Sys2Proof.Proofs
end

section
/-! How long a rejection loop may run (R238): over a finite type of loop states, whatever loop ends does so within as many
iterations as there are states, so that the model's bound is no cap and an iteration that rejects costs nothing of it. -/

namespace Sys2Proof.Machine

/-! ## Loops over a finite type of states -/

section

variable {α σ : Type} {body : σ → Iter α σ} {n : Nat} {s s' : σ}

/-- The states from which the loop ends within `n` iterations. -/
def endsWithin (body : σ → Iter α σ) (n : Nat) : Set σ := {s | runLoop body n s ≠ none}

theorem endsWithin_mono (body : σ → Iter α σ) : Monotone (endsWithin body) := by
  intro n m hnm s hs
  obtain ⟨r, hr⟩ := Option.ne_none_iff_exists'.mp hs
  exact Option.ne_none_iff_exists'.mpr ⟨r, runLoop_mono hr hnm⟩

theorem mem_endsWithin_succ : s ∈ endsWithin body (n + 1) ↔ ∀ s', body s = .again s' → s' ∈ endsWithin body n := by
  simp only [endsWithin, Set.mem_ofPred_eq]
  cases hb : body s with
  | done a s' => simp [runLoop_done hb]
  | again s' => simp [runLoop_again hb]

/-- Once one iteration more ends the loop from no further state, none ever will. -/
theorem endsWithin_stable (h : endsWithin body n = endsWithin body (n + 1)) :
    endsWithin body (n + 1) = endsWithin body (n + 2) := by
  ext s
  rw [mem_endsWithin_succ, h, ← mem_endsWithin_succ]

/-- The sets grow strictly until they are stable, so they are stable after as many iterations as there are states. -/
theorem endsWithin_eq_of_card_le [Finite σ] (h : Nat.card σ ≤ n) : endsWithin body n = endsWithin body (Nat.card σ) := by
  have heq_of_ncard {n m : Nat} (hnm : n ≤ m) (hc : (endsWithin body n).ncard = (endsWithin body m).ncard) :
      endsWithin body n = endsWithin body m :=
    Set.eq_of_subset_of_ncard_le (endsWithin_mono body hnm) hc.ge
  have hstable : (endsWithin body n).ncard = (endsWithin body (Nat.card σ)).ncard :=
    Nat.stabilises_of_monotone (f := fun n => (endsWithin body n).ncard)
      (fun _ _ hnm => Set.ncard_le_ncard (endsWithin_mono body hnm)) (fun _ => Set.ncard_le_card _)
      (fun m hm => congrArg Set.ncard (endsWithin_stable (heq_of_ncard m.le_succ hm))) h
  exact (heq_of_ncard h hstable.symm).symm

/-- From as many iterations as there are states on, more of them change nothing. -/
theorem runLoop_eq_of_card_le [Finite σ] (h : Nat.card σ ≤ n) (s : σ) :
    runLoop body n s = runLoop body (Nat.card σ) s := by
  cases hr : runLoop body (Nat.card σ) s with
  | some r => exact runLoop_mono hr h
  | none =>
    have hnot : s ∉ endsWithin body n := by
      rw [endsWithin_eq_of_card_le h]
      exact fun hs => hs hr
    exact not_not.mp hnot

/-! ## The bound of the model -/

theorem exists_loopBound_eq_succ : ∃ n, Config.loopBound = n + 1 :=
  Nat.exists_eq_add_one_of_ne_zero (Nat.two_pow_pos 130).ne'

theorem runLoop_loopBound_done {a : α} (h : body s = .done a s') : runLoop body Config.loopBound s = some (a, s') := by
  obtain ⟨n, hn⟩ := exists_loopBound_eq_succ
  rw [hn, runLoop_done h]

/-- An iteration that rejects leaves the loop as if it began where the iteration ended. -/
theorem runLoop_loopBound_again [Finite σ] (hcard : Nat.card σ < Config.loopBound) (h : body s = .again s') :
    runLoop body Config.loopBound s = runLoop body Config.loopBound s' := by
  obtain ⟨n, hn⟩ := exists_loopBound_eq_succ
  rw [hn, runLoop_again h, runLoop_eq_of_card_le (by omega), runLoop_eq_of_card_le (n := n + 1) (by omega)]

end

/-! ## The states of the loops of the block -/

theorem card_engine : Nat.card Engine = 2 ^ 128 := by
  rw [Nat.card_congr BitVec.equivFin.toEquiv, Nat.card_fin]

/-- A phase of `NORM` is a source of words and, in the tail, a sign. -/
def normPhaseEquiv (σ : Type) : NormPhase σ ≃ Option Bool × σ where
  toFun
    | .layer s => (none, s)
    | .tail neg s => (some neg, s)
  invFun
    | (none, s) => .layer s
    | (some neg, s) => .tail neg s
  left_inv p := by cases p <;> rfl
  right_inv
    | (none, _) => rfl
    | (some _, _) => rfl

theorem finite_normPhase : Finite (NormPhase Engine) := Finite.of_equiv _ (normPhaseEquiv Engine).symm

theorem card_normPhase : Nat.card (NormPhase Engine) = 3 * 2 ^ 128 := by
  rw [Nat.card_congr (normPhaseEquiv Engine), Nat.card_prod, card_engine, Nat.card_eq_fintype_card, Fintype.card_option,
    Fintype.card_bool]

end Sys2Proof.Machine
end

section
/-! The ziggurat sampler over the default engine (R130 to R139): one pass of `NORM` and of `EXP` in terms of the raw words
it draws, and the command from the passes of its loop. -/

namespace Sys2Proof.Machine

/-! ## The sequence of raw words -/

theorem engineAfter_add (e : Engine) (m k : Nat) : engineAfter (engineAfter e m) k = engineAfter e (m + k) := by
  induction k with
  | zero => rfl
  | succ k ih => rw [engineAfter, ih, Nat.add_succ, engineAfter]

/-- The words behind the first m are those of the state that m draws leave. -/
theorem rawWord_engineAfter (e : Engine) (m k : Nat) : rawWord (engineAfter e m) k = rawWord e (m + k) := by
  rw [rawWord, engineAfter_add, rawWord, Nat.add_assoc]

/-- A uniform drawn after n words is built from word number n (R120). -/
theorem uniform01_engineAfter (e : Engine) (n : Nat) :
    uniform01 nextWord (engineAfter e n) = (uniformOf (rawWord e n), engineAfter e (n + 1)) := by
  rw [uniform01, drawF64_nextWord, rawWord_engineAfter, engineAfter_add]
  rfl

/-- The layer of a word, its low 8 bits (R131, R136). -/
theorem slice_7_0 (u : Word) : slice u 7 0 = u.toNat % 2 ^ 8 := by
  rw [slice_eq_div_mod, Nat.pow_zero, Nat.div_one]

/-- The 55-bit magnitude of a word, between its layer and its sign (R131). -/
theorem slice_62_8 (u : Word) : slice u 62 8 = u.toNat % 2 ^ 63 / 2 ^ 8 := by
  rw [slice_eq_div_mod]
  omega

/-- The sign of a word, its top bit (R131). -/
theorem getLsbD_63 (u : Word) : u.getLsbD 63 = decide (2 ^ 63 ≤ u.toNat) := f64Sign_eq u

/-! ## The passes of `NORM` -/

section

variable {e : Engine} {n i j : Nat} {neg : Bool} {x lhs rhs xt y : Word}

/-- Steps 1 to 3 (R130 to R132). -/
theorem normPass_layer (fns : Transcendentals) (hi : i = (rawWord e 0).toNat % 2 ^ 8)
    (hj : j = (rawWord e 0).toNat % 2 ^ 63 / 2 ^ 8) (hneg : neg = decide (2 ^ 63 ≤ (rawWord e 0).toNat))
    (hx : x = fmul (cvtU64F64 j) (tableWN i)) :
    normPass fns nextWord (.layer e) =
      if j < tableKN i then .done (withSign neg x) (.layer (engineAfter e 1))
      else if i = 0 then .again (.tail neg (engineAfter e 1))
      else normWedgePass fns nextWord i neg x (engineAfter e 1) := by
  rw [hx, hi, hj, hneg, ← slice_7_0, ← slice_62_8, ← getLsbD_63]
  rfl

/-- Step 5, its uniform being word number n (R134). -/
theorem normWedgePass_engineAfter
    (hlhs : lhs = fadd (tableFN i) (fmul (uniformOf (rawWord e n)) (fsub (tableFN (i - 1)) (tableFN i))))
    (hrhs : rhs = exp64 (fmul f64NegHalf (fmul x x))) :
    normWedgePass defaultFunctions nextWord i neg x (engineAfter e n) =
      if flt lhs rhs then .done (withSign neg x) (.layer (engineAfter e (n + 1)))
      else .again (.layer (engineAfter e (n + 1))) := by
  rw [normWedgePass, uniform01_engineAfter, hlhs, hrhs]
  rfl

/-- Step 4, one pair, its uniforms being words number n and n + 1 (R133). -/
theorem normPass_tail (hxt : xt = fdiv (fneg (ln64 (uniformOf (rawWord e n)))) constRN)
    (hy : y = fneg (ln64 (uniformOf (rawWord e (n + 1))))) :
    normPass defaultFunctions nextWord (.tail neg (engineAfter e n)) =
      if fle (fmul xt xt) (fadd y y) then .done (withSign neg (fadd constRN xt)) (.layer (engineAfter e (n + 2)))
      else .again (.tail neg (engineAfter e (n + 2))) := by
  rw [normPass, normTailPass, uniform01_engineAfter, uniform01_engineAfter, hxt, hy]
  rfl

end

/-! ## The command `NORM` -/

/-- The loop of `NORM` in the default instance. -/
def normRun (p : NormPhase Engine) : Option (Word × NormPhase Engine) :=
  runLoop (normPass defaultFunctions nextWord) Config.loopBound p

section

variable {s : State} {p q : NormPhase Engine} {r : Word} {e : Engine}

theorem normRun_of_done (h : normPass defaultFunctions nextWord p = .done r q) : normRun p = some (r, q) :=
  runLoop_loopBound_done h

theorem normRun_of_again (h : normPass defaultFunctions nextWord p = .again q) : normRun p = normRun q := by
  have := finite_normPhase
  exact runLoop_loopBound_again (by rw [card_normPhase]; decide) h

/-- An answer writes `S` whatever was in it. -/
theorem answerSample_setS (d : Option (Word × Engine)) (s : State) (e : Engine) :
    answerSample d (s.setS e) = answerSample d s := by
  cases d <;> rfl

/-- Once seeded, `NORM` answers the deviate of the sampling (R130). -/
theorem exec_norm_seeded (hs : s.SEEDED = true) (a : Word) :
    exec (.norm a) s = answerSample (normSample defaultFunctions nextWord s.S) s := by
  rw [exec_norm, execNorm, normWith, withSeed_seeded hs, defaultParameters_functions, defaultParameters_step]

/-- It answers what its loop ends with, and leaves the engine state that the loop ends in. -/
theorem exec_norm_of_normRun (hs : s.SEEDED = true) (a : Word) (h : normRun (.layer s.S) = some (r, p)) :
    exec (.norm a) s = .next (s.afterDraws p.source r) := by
  rw [exec_norm_seeded hs, normSample, ← normRun, h]
  rfl

/-- A command whose loop comes to step 1 again does as if it began there. -/
theorem exec_norm_restart (hs : s.SEEDED = true) (a : Word) (h : normRun (.layer s.S) = normRun (.layer e)) :
    exec (.norm a) s = exec (.norm a) (s.setS e) := by
  rw [exec_norm_seeded hs, exec_norm_seeded (s := s.setS e) hs, answerSample_setS, State.setS_S, normSample, normSample,
    ← normRun, ← normRun, h]

end

/-! ## The tail of `NORM` (R133) -/

section

variable {e : Engine} {neg : Bool} {k : Nat} {xt y : Nat → Word}
  (hxt : ∀ m, xt m = fdiv (fneg (ln64 (uniformOf (rawWord e (1 + 2 * m))))) constRN)
  (hy : ∀ m, y m = fneg (ln64 (uniformOf (rawWord e (2 + 2 * m)))))

include hxt hy

/-- Pair number m of the tail that the first word leads to. -/
theorem normPass_tail_pair (m : Nat) :
    normPass defaultFunctions nextWord (.tail neg (engineAfter e (1 + 2 * m))) =
      if fle (fmul (xt m) (xt m)) (fadd (y m) (y m)) then
        .done (withSign neg (fadd constRN (xt m))) (.layer (engineAfter e (1 + 2 * (m + 1))))
      else .again (.tail neg (engineAfter e (1 + 2 * (m + 1)))) := by
  have hword : 2 + 2 * m = 1 + 2 * m + 1 := by omega
  exact normPass_tail (hxt m) (hword ▸ hy m)

/-- Pairs that are rejected are drawn one behind the other in the same tail. -/
theorem normRun_tail_rejects (hreject : ∀ m, m < k → fle (fmul (xt m) (xt m)) (fadd (y m) (y m)) = false) :
    normRun (.tail neg (engineAfter e 1)) = normRun (.tail neg (engineAfter e (1 + 2 * k))) := by
  induction k with
  | zero => rfl
  | succ k ih =>
    have hpass := normPass_tail_pair (neg := neg) hxt hy k
    rw [hreject k k.lt_succ_self, if_neg Bool.false_ne_true] at hpass
    rw [ih fun m hm => hreject m (hm.trans k.lt_succ_self), normRun_of_again hpass]

/-- The tail ends with the first pair accepted. -/
theorem normRun_tail_accepts (hreject : ∀ m, m < k → fle (fmul (xt m) (xt m)) (fadd (y m) (y m)) = false)
    (haccept : fle (fmul (xt k) (xt k)) (fadd (y k) (y k)) = true) :
    normRun (.tail neg (engineAfter e 1)) =
      some (withSign neg (fadd constRN (xt k)), .layer (engineAfter e (1 + 2 * (k + 1)))) := by
  have hpass := normPass_tail_pair (neg := neg) hxt hy k
  rw [haccept, if_pos rfl] at hpass
  rw [normRun_tail_rejects hxt hy hreject, normRun_of_done hpass]

end

end Sys2Proof.Machine

namespace Sys2Proof.Proofs

open Sys2Proof Sys2Proof.Machine

/-- Settles O31: a word of layer 0 that misses the fast path leads to the tail, which ends with its first accepted pair
(`normRun_tail_accepts`), however many are rejected: the bound on iterations is no cap (`runLoop_loopBound_again`). -/
theorem normTail : Obligations.NormTail := by
  intro a s k xt y hs hlayer hmiss hxt hy hreject haccept
  have hpass := normPass_layer defaultFunctions hlayer.symm rfl rfl rfl
  rw [if_neg (not_lt.mpr hmiss), if_pos rfl] at hpass
  exact exec_norm_of_normRun hs a ((normRun_of_again hpass).trans (normRun_tail_accepts hxt hy hreject haccept))

/-- Settles O29: the first pass accepts the candidate. -/
theorem normFastPath : Obligations.NormFastPath := by
  refine ⟨by decide, fun a s hs hfast => ?_⟩
  have hpass := normPass_layer (e := s.S) defaultFunctions rfl rfl rfl rfl
  rw [if_pos hfast] at hpass
  exact exec_norm_of_normRun hs a (normRun_of_done hpass)

/-- Settles O30: the first pass goes on to the wedge test, which accepts the candidate or leads back to step 1. -/
theorem normWedgeTest : Obligations.NormWedgeTest := by
  intro a s i j x lhs rhs hs hi hj hlayer hmiss hx hlhs hrhs
  have hpass := normPass_layer defaultFunctions hi hj rfl hx
  rw [if_neg (not_lt.mpr hmiss), if_neg (by omega), normWedgePass_engineAfter hlhs hrhs] at hpass
  refine ⟨fun haccept => ?accepted, fun hreject => ?rejected⟩
  case accepted =>
    rw [haccept, if_pos rfl] at hpass
    exact exec_norm_of_normRun hs a (normRun_of_done hpass)
  case rejected =>
    rw [hreject, if_neg Bool.false_ne_true] at hpass
    exact exec_norm_restart hs a (normRun_of_again hpass)

end Sys2Proof.Proofs
end

section
/-! `EXP` over the default engine (R135 to R139), as `NORM` above: one pass of its loop in terms of the raw words it draws,
and the command from the passes. -/

namespace Sys2Proof.Machine

/-- The 56-bit magnitude of a word, everything above its layer (R136). -/
theorem slice_63_8 (u : Word) : slice u 63 8 = u.toNat / 2 ^ 8 := slice_63_eq_div u (by decide)

/-! ## The passes of `EXP` -/

section

variable {e : Engine} {n i j : Nat} {x lhs rhs : Word}

/-- Steps 1 to 3 (R135 to R137). -/
theorem expPass_layer (fns : Transcendentals) (hi : i = (rawWord e 0).toNat % 2 ^ 8)
    (hj : j = (rawWord e 0).toNat / 2 ^ 8) (hx : x = fmul (cvtU64F64 j) (tableWE i)) :
    expPass fns nextWord e =
      if j < tableKE i then .done x (engineAfter e 1)
      else if i = 0 then expTailPass fns nextWord (engineAfter e 1)
      else expWedgePass fns nextWord i x (engineAfter e 1) := by
  rw [hx, hi, hj, ← slice_7_0, ← slice_63_8]
  rfl

/-- Step 4, its uniform being word number n (R138). -/
theorem expTailPass_engineAfter (e : Engine) (n : Nat) :
    expTailPass defaultFunctions nextWord (engineAfter e n) =
      .done (fsub constRE (ln64 (uniformOf (rawWord e n)))) (engineAfter e (n + 1)) := by
  rw [expTailPass, uniform01_engineAfter]
  rfl

/-- Step 5, its uniform being word number n (R139). -/
theorem expWedgePass_engineAfter
    (hlhs : lhs = fadd (tableFE i) (fmul (uniformOf (rawWord e n)) (fsub (tableFE (i - 1)) (tableFE i))))
    (hrhs : rhs = exp64 (fneg x)) :
    expWedgePass defaultFunctions nextWord i x (engineAfter e n) =
      if flt lhs rhs then .done x (engineAfter e (n + 1)) else .again (engineAfter e (n + 1)) := by
  rw [expWedgePass, uniform01_engineAfter, hlhs, hrhs]
  rfl

end

/-! ## The command `EXP` -/

section

variable {s : State} {r : Word} {e : Engine}

/-- Once seeded, `EXP` answers the deviate of the sampling (R135). -/
theorem exec_exp_seeded (hs : s.SEEDED = true) (a : Word) :
    exec (.exp a) s = answerSample (expSample defaultFunctions nextWord s.S) s := by
  rw [exec_exp, execExp, expWith, withSeed_seeded hs, defaultParameters_functions, defaultParameters_step]

theorem exec_exp_of_done (hs : s.SEEDED = true) (a : Word) (h : expPass defaultFunctions nextWord s.S = .done r e) :
    exec (.exp a) s = .next (s.afterDraws e r) := by
  rw [exec_exp_seeded hs, expSample, runLoop_loopBound_done h]
  rfl

/-- A pass that rejects leaves the command as if it began there. -/
theorem exec_exp_of_again (hs : s.SEEDED = true) (a : Word) (h : expPass defaultFunctions nextWord s.S = .again e) :
    exec (.exp a) s = exec (.exp a) (s.setS e) := by
  rw [exec_exp_seeded hs, exec_exp_seeded (s := s.setS e) hs, answerSample_setS, State.setS_S, expSample, expSample,
    runLoop_loopBound_again (by rw [card_engine]; decide) h]

end

end Sys2Proof.Machine

namespace Sys2Proof.Proofs

open Sys2Proof Sys2Proof.Machine

/-- Settles O32: the first pass accepts the candidate. -/
theorem expFastPath : Obligations.ExpFastPath := by
  refine ⟨by decide, fun a s hs hfast => ?_⟩
  have hpass := expPass_layer (e := s.S) defaultFunctions rfl rfl rfl
  rw [if_pos hfast] at hpass
  exact exec_exp_of_done hs a hpass

/-- Settles O33: the first pass goes on to the wedge test, which accepts the candidate or leads back to step 1. -/
theorem expWedgeTest : Obligations.ExpWedgeTest := by
  intro a s i j x lhs rhs hs hi hj hlayer hmiss hx hlhs hrhs
  have hpass := expPass_layer defaultFunctions hi hj hx
  rw [if_neg (not_lt.mpr hmiss), if_neg (by omega), expWedgePass_engineAfter hlhs hrhs] at hpass
  refine ⟨fun haccept => ?accepted, fun hreject => ?rejected⟩
  case accepted =>
    rw [haccept, if_pos rfl] at hpass
    exact exec_exp_of_done hs a hpass
  case rejected =>
    rw [hreject, if_neg Bool.false_ne_true] at hpass
    exact exec_exp_of_again hs a hpass

/-- Settles O34: in layer 0 the first pass accepts whatever uniform it draws. -/
theorem expTail : Obligations.ExpTail := by
  intro a s hs hlayer hmiss
  have hpass := expPass_layer defaultFunctions hlayer.symm rfl rfl
  rw [if_neg (not_lt.mpr hmiss), if_pos rfl, expTailPass_engineAfter] at hpass
  exact exec_exp_of_done hs a hpass

end Sys2Proof.Proofs
end

section
/-! No deviate is a NaN, and none of `EXP` has a sign (R141): each is a product of finite operands, or the sum of a tail
constant and what a logarithm of a uniform gives. -/

namespace Sys2Proof.Machine

/-! ## Operators that make no NaN -/

section

variable {x y : Word}

@[simp] theorem f64IsNaN_fneg (x : Word) : f64IsNaN (fneg x) = f64IsNaN x := by
  rw [Bool.eq_iff_iff, f64IsNaN_iff, f64IsNaN_iff, f64Mag_fneg]

@[simp] theorem f64IsNaN_withSign (neg : Bool) (x : Word) : f64IsNaN (withSign neg x) = f64IsNaN x := by
  cases neg
  · rfl
  · exact f64IsNaN_fneg x

theorem f64IsNaN_fmul (hx : f64IsFinite x = true) (hy : f64IsFinite y = true) : f64IsNaN (fmul x y) = false := by
  rw [fmul_of_finite hx hy]
  exact f64IsNaN_round _ _ _

/-- A sum with a finite operand is a NaN only if the other is one. -/
theorem f64IsNaN_fadd (hx : f64IsFinite x = true) (hy : f64IsNaN y = false) : f64IsNaN (fadd x y) = false := by
  cases hinf : f64IsInf y with
  | false =>
    rw [fadd_of_finite hx (f64IsFinite_of_not hy hinf)]
    exact f64IsNaN_round _ _ _
  | true => simp [fadd, f64IsNaN_of_finite hx, f64IsInf_of_finite hx, hy, hinf]

/-- A quotient by a finite number other than 0 is a NaN only if the dividend is one. -/
theorem f64IsNaN_fdiv (hx : f64IsNaN x = false) (hy : f64IsFinite y = true) (hy₀ : f64Units y ≠ 0) :
    f64IsNaN (fdiv x y) = false := by
  cases hinf : f64IsInf x with
  | false =>
    rw [fdiv_of_finite (f64IsFinite_of_not hx hinf) hy hy₀]
    exact f64IsNaN_round _ _ _
  | true =>
    have hquot : fdiv x y = f64Pack (f64Sign x != f64Sign y) (2047 * 2 ^ 52) := by
      simp [fdiv, hx, hinf, f64IsNaN_of_finite hy, f64IsInf_of_finite hy]
    rw [hquot, Bool.eq_false_iff, ne_eq, f64IsNaN_iff, f64Mag_pack _ (by decide)]
    exact lt_irrefl _

end

/-! ## The candidates -/

theorem slice_lt (u : Word) (hi lo : Nat) : slice u hi lo < 2 ^ 64 := by
  rw [slice_eq_div_mod]
  exact ((Nat.mod_le _ _).trans (Nat.div_le_self _ _)).trans_lt u.isLt

theorem f64IsFinite_cvtU64F64 {j : Nat} (hj : j < 2 ^ 64) : f64IsFinite (cvtU64F64 j) = true := by
  refine (roundsTo_cvtU64F64 j).isFinite ?_
  calc |(j : ℝ)| = j := abs_of_nonneg (Nat.cast_nonneg j)
    _ < 2 ^ 64 := by exact_mod_cast hj
    _ ≤ (2 ^ 54 - 1) * 2 ^ 11 := by norm_num
    _ ≤ (2 ^ 54 - 1) * 2 ^ 970 :=
        mul_le_mul_of_nonneg_left (pow_le_pow_right₀ one_le_two (by decide)) (by norm_num)

theorem tableWN_isFinite : ∀ i < 256, f64IsFinite (tableWN i) = true := by decide +kernel

theorem tableWE_isFinite : ∀ i < 256, f64IsFinite (tableWE i) = true ∧ f64Sign (tableWE i) = false := by
  decide +kernel

/-! ## The logarithm of a uniform -/

section

variable {m : Nat}

/-- Among values of sign 0 the order is that of the magnitude bits. -/
theorem flt_iff_f64Mag_lt {x y : Word} (hx : f64IsFinite x = true) (hy : f64IsFinite y = true)
    (hsx : f64Sign x = false) (hsy : f64Sign y = false) : flt x y = true ↔ f64Mag x < f64Mag y := by
  rw [flt, f64IsNaN_of_finite hx, f64IsNaN_of_finite hy, f64Rank_eq, f64Rank_eq, hsx, hsy]
  simp

theorem word_f64OfBits53_lt_one (hm : m < 2 ^ 53) : flt (word (f64OfBits53 m)) f64One = true := by
  have hone : f64Mag f64One = 1023 * 2 ^ 52 := by decide
  rw [flt_iff_f64Mag_lt (f64IsFinite_word_f64OfBits53 hm) (by decide) (f64Sign_word_f64OfBits53 hm) (by decide), hone,
    f64Mag_word_f64OfBits53 hm]
  exact f64OfBits53_lt hm

theorem zero_lt_word_f64OfBits53 (hm : m < 2 ^ 53) (h₀ : word (f64OfBits53 m) ≠ 0#64) :
    flt 0#64 (word (f64OfBits53 m)) = true := by
  have hzero : f64Mag 0#64 = 0 := by decide
  have hsign := f64Sign_word_f64OfBits53 hm
  rw [flt_iff_f64Mag_lt (by decide) (f64IsFinite_word_f64OfBits53 hm) (by decide) hsign, hzero]
  exact Nat.pos_of_ne_zero fun hmag => h₀ (word_eq_of_sign_mag hsign hmag)

/-- A uniform is a multiple of `2^-53` below 1 (R120). -/
theorem exists_uniform01_eq {σ : Type} (next : Source σ) (s : σ) :
    ∃ m < 2 ^ 53, (uniform01 next s).1 = word (f64OfBits53 m) := by
  refine ⟨slice (next s).1 63 11, ?_, rfl⟩
  rw [slice_63_eq_div _ (by decide)]
  exact Nat.div_lt_of_lt_mul (next s).1.isLt

/-- The logarithm of a uniform is minus infinity, for the uniform 0, or finite and not above 0 (R14). -/
theorem Lawful.ln64_uniform {fns : Transcendentals} (h : Lawful fns) {σ : Type} (next : Source σ) (s : σ) :
    fns.ln64 (uniform01 next s).1 = f64NegInf ∨
      f64IsFinite (fns.ln64 (uniform01 next s).1) = true ∧ fle (fns.ln64 (uniform01 next s).1) 0#64 = true := by
  obtain ⟨m, hm, hu⟩ := exists_uniform01_eq next s
  rw [hu]
  rcases eq_or_ne (word (f64OfBits53 m)) 0#64 with h₀ | h₀
  · exact .inl (h₀ ▸ h.ln_zero)
  · exact .inr (h.ln_nonpos _ (f64IsFinite_word_f64OfBits53 hm) (zero_lt_word_f64OfBits53 hm h₀)
      (word_f64OfBits53_lt_one hm))

end

/-! ## The values of the passes -/

section

variable {fns : Transcendentals} {σ : Type} {next : Source σ} {s s' : σ} {r : Word}

/-- Everything a pass of `NORM` can accept: the candidate of a word, or a value of the tail, with a sign (R130). -/
theorem normPass_done {p q : NormPhase σ} (h : normPass fns next p = .done r q) :
    (∃ neg, ∃ j < 2 ^ 64, ∃ i < 256, r = withSign neg (fmul (cvtU64F64 j) (tableWN i))) ∨
    ∃ neg s, r = withSign neg (fadd constRN (fdiv (fneg (fns.ln64 (uniform01 next s).1)) constRN)) := by
  cases p with
  | layer s =>
    have hcandidate (neg : Bool) : ∃ neg', ∃ j < 2 ^ 64, ∃ i < 256,
        withSign neg (fmul (cvtU64F64 (slice (next s).1 62 8)) (tableWN (slice (next s).1 7 0))) =
          withSign neg' (fmul (cvtU64F64 j) (tableWN i)) :=
      ⟨neg, _, slice_lt _ _ _, _, slice_7_0 (next s).1 ▸ Nat.mod_lt _ (by decide), rfl⟩
    rw [normPass, normLayerPass] at h
    split at h
    · cases h
      exact .inl (hcandidate _)
    · split at h
      · cases h
      · rw [normWedgePass] at h
        split at h
        · cases h
          exact .inl (hcandidate _)
        · cases h
  | tail neg s =>
    rw [normPass, normTailPass] at h
    split at h
    · cases h
      exact .inr ⟨neg, s, rfl⟩
    · cases h

/-- Everything a pass of `EXP` can accept: the candidate of a word, or a value of the tail (R135). -/
theorem expPass_done (h : expPass fns next s = .done r s') :
    (∃ j < 2 ^ 64, ∃ i < 256, r = fmul (cvtU64F64 j) (tableWE i)) ∨
    ∃ s, r = fsub constRE (fns.ln64 (uniform01 next s).1) := by
  have hcandidate : ∃ j < 2 ^ 64, ∃ i < 256,
      fmul (cvtU64F64 (slice (next s).1 63 8)) (tableWE (slice (next s).1 7 0)) = fmul (cvtU64F64 j) (tableWE i) :=
    ⟨_, slice_lt _ _ _, _, slice_7_0 (next s).1 ▸ Nat.mod_lt _ (by decide), rfl⟩
  rw [expPass] at h
  split at h
  · cases h
    exact .inl hcandidate
  · split at h
    · cases h
      exact .inr ⟨_, rfl⟩
    · rw [expWedgePass] at h
      split at h
      · cases h
        exact .inl hcandidate
      · cases h

theorem normTail_not_nan (hl : Lawful fns) (next : Source σ) (s : σ) :
    f64IsNaN (fadd constRN (fdiv (fneg (fns.ln64 (uniform01 next s).1)) constRN)) = false := by
  have hln : f64IsNaN (fns.ln64 (uniform01 next s).1) = false := by
    rcases hl.ln64_uniform next s with hinf | ⟨hfin, -⟩
    · rw [hinf]; decide
    · exact f64IsNaN_of_finite hfin
  refine f64IsNaN_fadd (by decide) (f64IsNaN_fdiv ?_ (by decide) (by decide +kernel))
  rw [f64IsNaN_fneg, hln]

/-- The exponential tail is infinite or the rounding of a positive sum (R138). -/
theorem expTail_not_nan_nor_signed (hl : Lawful fns) (next : Source σ) (s : σ) :
    f64IsNaN (fsub constRE (fns.ln64 (uniform01 next s).1)) = false ∧
      f64Sign (fsub constRE (fns.ln64 (uniform01 next s).1)) = false := by
  rcases hl.ln64_uniform next s with hinf | ⟨hfin, hle⟩
  · have hneg : fneg f64NegInf = f64Inf := by decide
    rw [hinf, fsub, hneg, fadd_inf_of_finite (by decide)]
    decide
  · have hRE := isValue_of_finite (x := constRE) (by decide)
    have hln := isValue_of_finite hfin
    have hpos := (isValue_zero.flt_iff hRE).mp (by decide)
    have hnonpos := (hln.fle_iff isValue_zero).mp hle
    obtain ⟨hnan, -, -, hsign, -⟩ := roundsTo_fsub hRE hln
    exact ⟨hnan, hsign (sub_pos.mpr (hnonpos.trans_lt hpos))⟩

theorem normSample_not_nan (hl : Lawful fns) (h : normSample fns next s = some (r, s')) : f64IsNaN r = false := by
  unfold normSample at h
  split at h
  · rename_i hrun
    cases h
    obtain ⟨p, hp⟩ := runLoop_accepts hrun
    rcases normPass_done hp with ⟨neg, j, hj, i, hi, rfl⟩ | ⟨neg, s, rfl⟩
    · rw [f64IsNaN_withSign, f64IsNaN_fmul (f64IsFinite_cvtU64F64 hj) (tableWN_isFinite i hi)]
    · rw [f64IsNaN_withSign, normTail_not_nan hl]
  · cases h

theorem expSample_not_nan_nor_signed (hl : Lawful fns) (h : expSample fns next s = some (r, s')) :
    f64IsNaN r = false ∧ f64Sign r = false := by
  obtain ⟨s₁, hs₁⟩ := runLoop_accepts h
  rcases expPass_done hs₁ with ⟨j, hj, i, hi, rfl⟩ | ⟨s₂, rfl⟩
  · have hcvt := f64IsFinite_cvtU64F64 hj
    have hcvtSign : f64Sign (cvtU64F64 j) = false := f64Sign_round false _ 1
    obtain ⟨hfin, hsign⟩ := tableWE_isFinite i hi
    refine ⟨f64IsNaN_fmul hcvt hfin, ?_⟩
    rw [f64Sign_fmul hcvt hfin, hcvtSign, hsign, bne_self_eq_false]
  · exact expTail_not_nan_nor_signed hl next s₂

end

/-! ## The commands -/

section

variable {s : State} {d : Option (Word × Engine)} {e e' : Engine} {r r' : Word}

theorem State.afterDraws_inj (h : s.afterDraws e r = s.afterDraws e' r') : e = e' ∧ r = r' := by
  have hout := congrArg State.OUT h
  exact ⟨congrArg State.S h, by simpa using hout⟩

theorem State.afterDraws_ne_afterError {st : Status} (hst : st ≠ .ok) : s.afterDraws e r ≠ s.afterError st := by
  intro h
  have hout := congrArg State.OUT h
  simp only [afterDraws_OUT, afterError_OUT, List.append_cancel_left_eq, List.cons.injEq, OutItem.rsp.injEq,
    Response.mk.injEq] at hout
  exact hst hout.1.1.symm

/-- The value in an answer is the deviate that the sampler gave. -/
theorem sampleCommand_answers (h : withSeed s (answerSample d s) = .next (s.afterDraws e r)) : d = some (r, e) := by
  rcases sampleCommand_next h with ⟨-, heq⟩ | ⟨-, r', e', hd, heq⟩
  · exact absurd heq (State.afterDraws_ne_afterError (by decide))
  · obtain ⟨rfl, rfl⟩ := State.afterDraws_inj heq
    exact hd

end

end Sys2Proof.Machine

namespace Sys2Proof.Proofs

open Sys2Proof Sys2Proof.Machine

/-- Settles O36: what a sampler returns was accepted by some pass of its loop (`normPass_done`, `expPass_done`), from
operands that are no NaN; a command answers what its sampler returns (`sampleCommand_answers`). -/
theorem deviatesAreNeverNaN : Obligations.DeviatesAreNeverNaN :=
  ⟨fun _ hl _ _ _ _ _ => ⟨normSample_not_nan hl, expSample_not_nan_nor_signed hl⟩,
    fun _ hl _ _ _ _ => ⟨fun h => normSample_not_nan hl (sampleCommand_answers h),
      fun h => expSample_not_nan_nor_signed hl (sampleCommand_answers h)⟩⟩

end Sys2Proof.Proofs
end

section
/-! The checksums of the two literal table sets (R154, R159): the words of a set, in the order of the rules, are those of
the rows of the ROM from the first block to the last. -/

namespace Sys2Proof.Machine

/-- The words of a table set in the order of R154 and R159: the column `K`, the column `W`, the column `F`, the tail
constant. -/
def tableWords (layers : List Layer) (tail : Word) : List Word :=
  layers.map Layer.k ++ layers.map Layer.w ++ layers.map Layer.f ++ [tail]

/-- The two checksums of R154 and R159. -/
def HaveChecksums (ws : List Word) (parity sum : Word) : Prop :=
  ws.foldl (fun x y => x ^^^ y) 0#64 = parity ∧ ws.foldl (fun x y => x + y) 0#64 = sum

theorem tableWords_map (layer : Nat → Layer) (is : List Nat) (tail : Word) :
    tableWords (is.map layer) tail =
      is.map (fun i => (layer i).k) ++ is.map (fun i => (layer i).w) ++ is.map (fun i => (layer i).f) ++ [tail] := by
  simp only [tableWords, List.map_map, Function.comp_def]

section

-- One kernel evaluation at a time, as in the tests: many at once ask for more threads than the checks allow.
set_option Elab.async false

/-- The 256 layers are the rows of the literal blocks, in the order in which they stand there. -/
theorem map_normalLayer_range : (List.range 256).map normalLayer = normalBlocks.flatten := by decide +kernel

theorem map_exponentialLayer_range : (List.range 256).map exponentialLayer = exponentialBlocks.flatten := by
  decide +kernel

theorem normalRows_haveChecksums :
    HaveChecksums (tableWords normalBlocks.flatten normalTail) 0x405128B81E335DA0#64 0x1298F26F3825834E#64 :=
  ⟨by decide +kernel, by decide +kernel⟩

theorem exponentialRows_haveChecksums :
    HaveChecksums (tableWords exponentialBlocks.flatten exponentialTail) 0x403BE43EAA4F7416#64 0x74BCAA4EE9BCAD40#64 :=
  ⟨by decide +kernel, by decide +kernel⟩

end

end Sys2Proof.Machine

namespace Sys2Proof.Proofs

open Sys2Proof Sys2Proof.Machine

/-- Settles O38: the words read layer by layer are those of the literal rows, and these are summed up. -/
theorem tablesMeetTheirChecksums : Obligations.TablesMeetTheirChecksums := by
  unfold Obligations.TablesMeetTheirChecksums
  rw [← tableWords_map, ← tableWords_map, map_normalLayer_range, map_exponentialLayer_range]
  exact ⟨normalRows_haveChecksums, exponentialRows_haveChecksums⟩

end Sys2Proof.Proofs
end

section
/-! The shape of the two literal table sets (R153, R158). Every width, density and tail constant is a positive normal
number, and among these the order of the values is that of the magnitude bits; so what is left to check of the literals
is an order of integers. -/

namespace Sys2Proof.Machine

/-! ## Positive normal numbers -/

/-- A positive normal number: sign 0, and an exponent that is neither 0 nor all ones. -/
def IsPosNormal (x : Word) : Prop := f64Sign x = false ∧ 0 < f64Exp x ∧ f64Exp x < 2047

section

variable {x y : Word}

theorem IsPosNormal.sign (hx : IsPosNormal x) : f64Sign x = false := hx.1

theorem IsPosNormal.isFinite (hx : IsPosNormal x) : f64IsFinite x = true := by
  obtain ⟨-, -, hlt⟩ := hx
  simp [f64IsFinite, hlt.ne]

theorem IsPosNormal.mag_pos (hx : IsPosNormal x) : 0 < f64Mag x := by
  obtain ⟨-, hexp, -⟩ := hx
  rw [f64Exp_eq] at hexp
  exact Nat.pos_of_div_pos hexp

theorem IsPosNormal.flt_iff (hx : IsPosNormal x) (hy : IsPosNormal y) : flt x y = true ↔ f64Mag x < f64Mag y :=
  flt_iff_f64Mag_lt hx.isFinite hy.isFinite hx.sign hy.sign

theorem IsPosNormal.zero_flt (hx : IsPosNormal x) : flt 0#64 x = true := by
  have hzero : f64Mag 0#64 = 0 := by decide
  rw [flt_iff_f64Mag_lt (by decide) hx.isFinite (by decide) hx.sign, hzero]
  exact hx.mag_pos

end

/-! ## A table set from its integers -/

/-- What R153 and R158 say of one table set: thresholds below `2^bits`, the largest of them `kTop` in layer `top`. -/
def TableWellShaped (layer : Nat → Layer) (tail : Word) (bits top : Nat) (kTop : Word) : Prop :=
  (∀ i, i < 256 → (layer i).k.toNat < 2 ^ bits ∧ (layer i).k.toNat ≤ (layer top).k.toNat) ∧
  (layer 1).k = 0#64 ∧ (layer top).k = kTop ∧ (layer 0).f = f64One ∧
  (∀ i, i < 255 → flt (layer (i + 1)).f (layer i).f = true ∧ flt 0#64 (layer (i + 1)).f = true) ∧
  (∀ i, 1 ≤ i → i < 255 → flt 0#64 (layer i).w = true ∧ flt (layer i).w (layer (i + 1)).w = true) ∧
  (∀ i, i < 256 →
    f64Sign (layer i).w = false ∧ 0 < f64Exp (layer i).w ∧ f64Exp (layer i).w < 2047 ∧
    f64Sign (layer i).f = false ∧ 0 < f64Exp (layer i).f ∧ f64Exp (layer i).f < 2047) ∧
  flt 0#64 tail = true ∧ f64IsFinite tail = true

/-- The same as facts about integers: the thresholds, the fields of each number, and the order of the magnitude bits. -/
structure TableLiterals (layer : Nat → Layer) (tail : Word) (bits top : Nat) (kTop : Word) : Prop where
  k_bounds : ∀ i < 256, (layer i).k.toNat < 2 ^ bits ∧ (layer i).k.toNat ≤ (layer top).k.toNat
  k_one : (layer 1).k = 0#64
  k_top : (layer top).k = kTop
  f_zero : (layer 0).f = f64One
  w_normal : ∀ i < 256, IsPosNormal (layer i).w
  f_normal : ∀ i < 256, IsPosNormal (layer i).f
  tail_normal : IsPosNormal tail
  f_falls : ∀ i < 255, f64Mag (layer (i + 1)).f < f64Mag (layer i).f
  w_rises : ∀ i < 255, 1 ≤ i → f64Mag (layer i).w < f64Mag (layer (i + 1)).w

section

variable {layer : Nat → Layer} {tail : Word} {bits top i : Nat} {kTop : Word}

theorem TableLiterals.f_flt (h : TableLiterals layer tail bits top kTop) (hi : i < 255) :
    flt (layer (i + 1)).f (layer i).f = true :=
  ((h.f_normal (i + 1) (by omega)).flt_iff (h.f_normal i (by omega))).mpr (h.f_falls i hi)

theorem TableLiterals.w_flt (h : TableLiterals layer tail bits top kTop) (h₁ : 1 ≤ i) (hi : i < 255) :
    flt (layer i).w (layer (i + 1)).w = true :=
  ((h.w_normal i (by omega)).flt_iff (h.w_normal (i + 1) (by omega))).mpr (h.w_rises i hi h₁)

theorem TableLiterals.wellShaped (h : TableLiterals layer tail bits top kTop) :
    TableWellShaped layer tail bits top kTop := by
  refine ⟨h.k_bounds, h.k_one, h.k_top, h.f_zero, fun i hi => ?densities, fun i h₁ hi => ?widths,
    fun i hi => ?normal, h.tail_normal.zero_flt, h.tail_normal.isFinite⟩
  case densities => exact ⟨h.f_flt hi, (h.f_normal (i + 1) (by omega)).zero_flt⟩
  case widths => exact ⟨(h.w_normal i (by omega)).zero_flt, h.w_flt h₁ hi⟩
  case normal =>
    obtain ⟨hsign, hpos, hlt⟩ := h.w_normal i hi
    exact ⟨hsign, hpos, hlt, h.f_normal i hi⟩

end

/-! ## The two table sets -/

section

-- One kernel evaluation at a time, as in the tests: many at once ask for more threads than the checks allow.
set_option Elab.async false

theorem normalTable_literals : TableLiterals normalLayer normalTail 55 157 0x007F754A814B207A#64 where
  k_bounds := by decide +kernel
  k_one := by decide
  k_top := by decide
  f_zero := by decide
  w_normal := by unfold IsPosNormal; decide +kernel
  f_normal := by unfold IsPosNormal; decide +kernel
  tail_normal := by unfold IsPosNormal; decide
  f_falls := by decide +kernel
  w_rises := by decide +kernel

theorem exponentialTable_literals :
    TableLiterals exponentialLayer exponentialTail 56 153 0x00FE254E70B754FB#64 where
  k_bounds := by decide +kernel
  k_one := by decide
  k_top := by decide
  f_zero := by decide
  w_normal := by unfold IsPosNormal; decide +kernel
  f_normal := by unfold IsPosNormal; decide +kernel
  tail_normal := by unfold IsPosNormal; decide
  f_falls := by decide +kernel
  w_rises := by decide +kernel

end

end Sys2Proof.Machine

namespace Sys2Proof.Proofs

open Sys2Proof Sys2Proof.Machine

/-- Settles O39: the order and the range of the literal patterns as integers, carried over to the numbers
(`TableLiterals.wellShaped`). -/
theorem tablesAreWellShaped : Obligations.TablesAreWellShaped :=
  ⟨normalTable_literals.wellShaped, exponentialTable_literals.wellShaped⟩

end Sys2Proof.Proofs
end

section
/-! `SHUF` over the default engine (R162, R163, R238): every index is drawn in the end, since the engine comes by the zero
word; the pairs of a run, with and without rejected draws, and the command that sends them. -/

namespace Sys2Proof.Machine

section

variable {i : Nat} {e : Engine}

/-! ## The draw of an index -/

/-- When the first word is below the threshold, it is the only one drawn (R163). -/
theorem drawIndex_of_accepted (hi : i + 1 < 2 ^ 64) (h : (rawWord e 0).toNat < threshold (i + 1) 64) :
    drawIndex nextWord i e = some ((rawWord e 0).toNat % (i + 1), engineAfter e 1) :=
  drawU64_derives.bounded_eq i.succ_pos hi ⟨fun _ hk => absurd hk (Nat.not_lt_zero _), h⟩

/-- The default engine always comes to an accepted word (R238). -/
theorem exists_drawIndex (hi : i + 1 < 2 ^ 64) (e : Engine) : ∃ j e', drawIndex nextWord i e = some (j, e') := by
  obtain ⟨k, hk⟩ := drawU64_derives.exists_firstBelow (threshold_pos i.succ_pos hi.le) e
  exact ⟨_, _, drawU64_derives.bounded_eq i.succ_pos hi hk⟩

/-! ## The pairs -/

theorem shuffleSwaps_succ {σ : Type} {next : Source σ} {j : Nat} {s s' s'' : σ} {rest : List (Nat × Nat)}
    (hd : drawIndex next (i + 1) s = some (j, s')) (hr : shuffleSwaps next i s' = some (rest, s'')) :
    shuffleSwaps next (i + 1) s = some ((i + 1, j) :: rest, s'') := by
  simp only [shuffleSwaps, hd, hr]

/-- Everything the pairs for i + 1 are when they end: the pair of the first draw, then those for i (R162). -/
theorem shuffleSwaps_succ_some {σ : Type} {next : Source σ} {s s' : σ} {swaps : List (Nat × Nat)}
    (h : shuffleSwaps next (i + 1) s = some (swaps, s')) :
    ∃ j s₁ rest, drawIndex next (i + 1) s = some (j, s₁) ∧ shuffleSwaps next i s₁ = some (rest, s') ∧
      swaps = (i + 1, j) :: rest := by
  unfold shuffleSwaps at h
  split at h
  · cases h
  · rename_i j s₁ hd
    split at h
    · cases h
    · rename_i rest s₂ hr
      cases h
      exact ⟨j, s₁, rest, hd, hr, rfl⟩

/-- When no word is rejected, each pair has its index from the next word (R162, R163). -/
theorem shuffleSwaps_of_accepted (hi : i + 1 < 2 ^ 64)
    (h : ∀ k, k < i → (rawWord e k).toNat < threshold (i - k + 1) 64) :
    shuffleSwaps nextWord i e =
      some ((List.range i).map (fun k => (i - k, (rawWord e k).toNat % (i - k + 1))), engineAfter e i) := by
  induction i generalizing e with
  | zero => rfl
  | succ i ih =>
    have hfirst := drawIndex_of_accepted (e := e) hi (h 0 i.succ_pos)
    have hrest := ih (e := engineAfter e 1) (by omega) fun k hk => by
      simpa only [rawWord_engineAfter_one, Nat.add_sub_add_right] using h (k + 1) (by omega)
    rw [shuffleSwaps_succ hfirst hrest]
    simp only [List.range_succ_eq_map, List.map_cons, List.map_map, Function.comp_def, Nat.sub_zero,
      Nat.succ_eq_add_one, Nat.add_sub_add_right, rawWord_engineAfter_one, engineAfter_one_add]

/-- Over the default engine the pairs always end (R238). -/
theorem exists_shuffleSwaps (hi : i + 1 < 2 ^ 64) (e : Engine) :
    ∃ swaps e', shuffleSwaps nextWord i e = some (swaps, e') := by
  induction i generalizing e with
  | zero => exact ⟨[], e, rfl⟩
  | succ i ih =>
    obtain ⟨j, e₁, hd⟩ := exists_drawIndex hi e
    obtain ⟨rest, e₂, hr⟩ := ih (by omega) e₁
    exact ⟨_, _, shuffleSwaps_succ hd hr⟩

/-- The pairs in order: pair k has i - k first, so that only the second indices are left to the draws (R162). -/
theorem shuffleSwaps_eq_map {σ : Type} {next : Source σ} {s s' : σ} {swaps : List (Nat × Nat)}
    (h : shuffleSwaps next i s = some (swaps, s')) :
    swaps = (List.range i).map (fun k => (i - k, (swaps.map Prod.snd).getD k 0)) := by
  obtain ⟨hlen, hget⟩ := shuffleSwaps_some h
  refine List.ext_getElem (by simp [hlen]) fun k hk _ => ?_
  have hfst := (hget k (hlen ▸ hk)).1
  rw [List.getD_eq_getElem _ _ hk] at hfst
  simp [hk, ← hfst]

/-- Both indices of every pair lie in a sequence of n elements (R162). -/
theorem shuffleSwaps_mem {σ : Type} {next : Source σ} {n : Nat} {s s' : σ} {swaps : List (Nat × Nat)}
    (h : shuffleSwaps next (n - 1) s = some (swaps, s')) : ∀ x ∈ swaps, x.1 < n ∧ x.2 ≤ x.1 := by
  obtain ⟨hlen, hget⟩ := shuffleSwaps_some h
  intro x hx
  obtain ⟨k, hk, rfl⟩ := List.mem_iff_getElem.mp hx
  have hpair := hget k (hlen ▸ hk)
  rw [List.getD_eq_getElem _ _ hk] at hpair
  omega

/-! ## The command -/

/-- A seeded `SHUF` of a size that is not negative sends its pairs and answers their number (R162). -/
theorem exec_shuf_of_swaps {a : Word} {s : State} {swaps : List (Nat × Nat)} (hs : s.SEEDED = true)
    (ha : a.toNat < 2 ^ 63) (h : shuffleSwaps nextWord (a.toNat - 1) s.S = some (swaps, e)) :
    exec (.shuf a) s = .next { s with
      S := e
      CMD := s.CMD.tail
      OUT := s.OUT ++ swaps.map swapItem ++ [.rsp ⟨.ok, word swaps.length⟩] } := by
  rw [exec_shuf, execShuf, shufWith, withSeed_seeded hs, signed64_of_lt ha, defaultParameters_step, shufCommand,
    if_neg (by omega), Int.toNat_natCast, h]
  rfl

end

end Sys2Proof.Machine

namespace Sys2Proof.Proofs

open Sys2Proof Sys2Proof.Machine

/-- Settles O40: the hypothesis is the acceptance of every draw (`threshold`), and such a run has its pairs from
consecutive words (`shuffleSwaps_of_accepted`). -/
theorem shuffleWithoutRejection : Obligations.ShuffleWithoutRejection := by
  intro a s hs ha haccept
  have hsize : ∀ k, k < a.toNat - 1 → a.toNat - 1 - k + 1 = a.toNat - k := by omega
  have hswaps := shuffleSwaps_of_accepted (i := a.toNat - 1) (e := s.S) (by omega)
    fun k hk => hsize k hk ▸ haccept k hk
  have hitems : ((List.range (a.toNat - 1)).map
      (fun k => (a.toNat - 1 - k, (rawWord s.S k).toNat % (a.toNat - 1 - k + 1)))).map swapItem =
      (List.range (a.toNat - 1)).map
        (fun k => OutItem.swp (word (a.toNat - 1 - k)) (word ((rawWord s.S k).toNat % (a.toNat - k)))) := by
    rw [List.map_map]
    exact List.map_congr_left fun k hk => by
      rw [Function.comp_apply, swapItem, hsize k (List.mem_range.mp hk)]
  rw [exec_shuf_of_swaps hs ha hswaps, hitems, List.length_map, List.length_range]

/-- Settles O41: the pairs end (`exists_shuffleSwaps`), and are i = n-1 down to 1 with an index at most i
(`shuffleSwaps_some`). -/
theorem shufflePairsAreInRange : Obligations.ShufflePairsAreInRange := by
  intro a s hs ha
  obtain ⟨swaps, e, h⟩ := exists_shuffleSwaps (i := a.toNat - 1) (by omega) s.S
  obtain ⟨hlen, hget⟩ := shuffleSwaps_some h
  refine ⟨e, swaps.map Prod.snd, by rw [List.length_map, hlen], fun k hk => ?inRange, ?answered⟩
  case inRange =>
    have hk' : k < swaps.length := hlen ▸ hk
    simpa [hk'] using (hget k hk).2
  case answered =>
    have hitems : swaps.map swapItem = (List.range (a.toNat - 1)).map
        (fun k => OutItem.swp (word (a.toNat - 1 - k)) (word ((swaps.map Prod.snd).getD k 0))) := by
      conv_lhs => rw [shuffleSwaps_eq_map h, List.map_map]
      rfl
    rw [exec_shuf_of_swaps hs ha h, hitems, hlen]

end Sys2Proof.Proofs
end

section
/-! `PERM` over the default engine (R161, R164, R165): its scratch RAM holds a list of numbers throughout, `0..n-1` after
the fill, and each step exchanges in it the pair that `SHUF` would send; an exchange permutes the list. -/

namespace Sys2Proof.Machine

/-! ## Swap requests applied to a list -/

section

variable {l : List Nat} {x : Nat × Nat} {swaps : List (Nat × Nat)}

@[simp] theorem length_exchange (l : List Nat) (x : Nat × Nat) : (exchange l x).length = l.length := by
  simp [exchange]

theorem getD_exchange (h₁ : x.1 < l.length) (h₂ : x.2 < l.length) (k : Nat) :
    (exchange l x).getD k 0 = if k = x.2 then l.getD x.1 0 else if k = x.1 then l.getD x.2 0 else l.getD k 0 := by
  rw [exchange]
  by_cases hk₂ : k = x.2
  · rw [if_pos hk₂, hk₂, List.getD_eq_getElem _ _ (by simpa using h₂), List.getElem_set_self]
  · rw [if_neg hk₂, List.getD_eq_getElem?_getD, List.getElem?_set_ne (Ne.symm hk₂)]
    by_cases hk₁ : k = x.1
    · rw [if_pos hk₁, hk₁, List.getElem?_set_self h₁, Option.getD_some]
    · rw [if_neg hk₁, List.getElem?_set_ne (Ne.symm hk₁), List.getD_eq_getElem?_getD]

/-- An exchange within the list permutes it. -/
theorem exchange_perm (h₁ : x.1 < l.length) (h₂ : x.2 < l.length) : (exchange l x).Perm l := by
  rw [exchange, List.getD_eq_getElem _ _ h₁, List.getD_eq_getElem _ _ h₂]
  exact List.set_set_perm h₁ h₂

@[simp] theorem applySwaps_nil (l : List Nat) : applySwaps l [] = l := rfl

@[simp] theorem applySwaps_cons (l : List Nat) (x : Nat × Nat) (swaps : List (Nat × Nat)) :
    applySwaps l (x :: swaps) = applySwaps (exchange l x) swaps := rfl

@[simp] theorem length_applySwaps (l : List Nat) (swaps : List (Nat × Nat)) :
    (applySwaps l swaps).length = l.length := by
  induction swaps generalizing l with
  | nil => rfl
  | cons x swaps ih => rw [applySwaps_cons, ih, length_exchange]

/-- Swap requests within the list permute it (R165). -/
theorem applySwaps_perm (h : ∀ x ∈ swaps, x.1 < l.length ∧ x.2 < l.length) : (applySwaps l swaps).Perm l := by
  induction swaps generalizing l with
  | nil => exact .refl l
  | cons x swaps ih =>
    obtain ⟨⟨h₁, h₂⟩, hrest⟩ := List.forall_mem_cons.mp h
    exact (ih (by simpa using hrest)).trans (exchange_perm h₁ h₂)

end

/-! ## The list that the scratch RAM holds -/

/-- The RAM `q` holds the numbers `vs` in its first entries and is `p` above them. -/
def Overlays (vs : List Nat) (p q : List (Nat × Word)) : Prop :=
  ∀ i, scratchLookup i q = if i < vs.length then some (word (vs.getD i 0)) else scratchLookup i p

section

variable {cap : Nat} {vs : List Nat} {p q : List (Nat × Word)}

theorem Overlays.lookup (h : Overlays vs p q) {i : Nat} (hi : i < vs.length) :
    scratchLookup i q = some (word (vs.getD i 0)) := by
  rw [h, if_pos hi]

/-- The fill leaves the identity (R161). -/
theorem fillIdentity_overlays {n : Nat} (hn : n ≤ cap) (p : List (Nat × Word)) :
    ∃ q, fillIdentity cap n 0 p = .ok q ∧ Overlays (List.range n) p q := by
  obtain ⟨q, hq, hl, -⟩ := fillIdentity_ok (cap := cap) n 0 p (by omega)
  refine ⟨q, hq, fun i => ?_⟩
  rw [hl, List.length_range]
  by_cases hi : i < n
  · rw [if_pos (by omega), if_pos hi, List.getD_eq_getElem _ _ (by simpa using hi), List.getElem_range]
  · rw [if_neg (by omega), if_neg hi]

/-- A swap of two entries is the exchange in the list (R161, R239). -/
theorem swapEntries_overlays (h : Overlays vs p q) (hcap : vs.length ≤ cap) {i j : Nat} (hi : i < vs.length)
    (hj : j < vs.length) :
    ∃ q', swapEntries cap q i j = .ok q' ∧ Overlays (exchange vs (i, j)) p q' := by
  refine ⟨_, swapEntries_ok (by omega) (by omega) (h.lookup hi) (h.lookup hj), fun k => ?_⟩
  rw [scratchLookup_insert, scratchLookup_insert, length_exchange, getD_exchange (x := (i, j)) hi hj, h k]
  by_cases hkj : k = j
  · rw [if_pos hkj, if_pos hkj, if_pos (by omega)]
  · rw [if_neg hkj, if_neg hkj]
    by_cases hki : k = i
    · rw [if_pos hki, if_pos hki, if_pos (by omega)]
    · rw [if_neg hki, if_neg hki]

/-- The steps of `PERM` draw what `SHUF` draws, and apply its pairs to the list (R164). -/
theorem permSwaps_overlays {σ : Type} {next : Source σ} {i : Nat} {s s' : σ} {swaps : List (Nat × Nat)}
    (h : Overlays vs p q) (hcap : vs.length ≤ cap) (hi : i ≤ vs.length - 1)
    (hswaps : shuffleSwaps next i s = some (swaps, s')) :
    ∃ q', permSwaps cap next i q s = .ok (q', s') ∧ Overlays (applySwaps vs swaps) p q' := by
  induction i generalizing vs q s swaps with
  | zero =>
    cases hswaps
    exact ⟨q, rfl, h⟩
  | succ i ih =>
    obtain ⟨j, s₁, rest, hd, hr, rfl⟩ := shuffleSwaps_succ_some hswaps
    have hj : j ≤ i + 1 := drawIndex_le hd
    obtain ⟨q₁, hswap, h₁⟩ := swapEntries_overlays h hcap (i := i + 1) (j := j) (by omega) (by omega)
    obtain ⟨q', hq', h'⟩ := ih h₁ (by simpa using hcap) (by rw [length_exchange]; omega) hr
    exact ⟨q', by simp only [permSwaps, hd, hswap, hq'], h'⟩

/-- The stream-out sends the list (R161). -/
theorem readOut_of_overlays (h : Overlays vs p q) (hcap : vs.length ≤ cap) :
    readOut cap q vs.length 0 = .ok (vs.map word) := by
  obtain ⟨ws, hws, hlen, hget⟩ := readOut_ok (cap := cap) (p := q) vs.length 0 (by omega)
    fun i _ hi => ⟨_, h.lookup (by omega)⟩
  rw [hws]
  refine congrArg _ (List.ext_getElem (by simp [hlen]) fun i hi hi' => ?_)
  have hvs : i < vs.length := hlen ▸ hi
  have hi₀ := hget i hvs
  rw [Nat.zero_add, h.lookup hvs, List.getD_eq_getElem _ _ hi, List.getD_eq_getElem _ _ hvs] at hi₀
  simpa using (Option.some.inj hi₀).symm

end

/-! ## The command -/

/-- A run of `PERM` streams out, and leaves in the RAM, what the pairs of `SHUF` make of the identity (R161, R164). -/
theorem permRun_of_swaps {σ : Type} {cap n : Nat} {next : Source σ} {s s' : σ} {swaps : List (Nat × Nat)}
    (hn : n ≤ cap) (p : List (Nat × Word)) (h : shuffleSwaps next (n - 1) s = some (swaps, s')) :
    ∃ q, permRun cap next n p s = .ok ⟨(applySwaps (List.range n) swaps).map word, q, s'⟩ ∧
      Overlays (applySwaps (List.range n) swaps) p q := by
  obtain ⟨p₀, hfill, h₀⟩ := fillIdentity_overlays hn p
  obtain ⟨q, hswaps, hq⟩ := permSwaps_overlays (cap := cap) h₀ (by simpa using hn) (by simp) h
  have hlen : (applySwaps (List.range n) swaps).length = n := by simp
  have hread := readOut_of_overlays (cap := cap) hq (by omega)
  rw [hlen] at hread
  exact ⟨q, by simp only [permRun, hfill, hswaps, hread], hq⟩

/-- A seeded `PERM` of a size up to `PERM_MAX`, from the pairs that `SHUF` would send (R161, R164). -/
theorem exec_perm_of_swaps {a : Word} {s : State} {e : Engine} {swaps : List (Nat × Nat)} (hs : s.SEEDED = true)
    (ha : a.toNat ≤ 65536) (h : shuffleSwaps nextWord (a.toNat - 1) s.S = some (swaps, e)) :
    ∃ p, Overlays (applySwaps (List.range a.toNat) swaps) s.P p ∧
      exec (.perm a) s = .next { s with
        S := e
        P := p
        CMD := s.CMD.tail
        OUT := s.OUT ++ (applySwaps (List.range a.toNat) swaps).map (fun v => OutItem.vout (word v)) ++
          [.rsp ⟨.ok, a⟩] } := by
  obtain ⟨p, hrun, hp⟩ := permRun_of_swaps (cap := Config.permMax) ha s.P h
  refine ⟨p, hp, ?_⟩
  have hcap : ¬ (Config.permMax : Int) < a.toNat := by
    rw [Config.permMax]
    omega
  rw [exec_perm, execPerm, permWith, withSeed_seeded hs, signed64_of_lt (by omega), defaultParameters_step,
    defaultParameters_permMax, permCommand, if_neg (by omega), if_neg hcap, Int.toNat_natCast, hrun]
  simp only [finish, permState, word_toNat_eq_self, List.map_map]
  rfl

end Sys2Proof.Machine

namespace Sys2Proof.Proofs

open Sys2Proof Sys2Proof.Machine

/-- Settles O42: `PERM` emits the identity with the pairs of `SHUF` applied (`exec_perm_of_swaps`), and these lie within
it, so that each exchange permutes it (`applySwaps_perm`). -/
theorem permEmitsAPermutation : Obligations.PermEmitsAPermutation := by
  intro a s hs ha
  obtain ⟨swaps, e, h⟩ := exists_shuffleSwaps (i := a.toNat - 1) (by omega) s.S
  obtain ⟨p, hp, hexec⟩ := exec_perm_of_swaps hs ha h
  have hperm : (applySwaps (List.range a.toNat) swaps).Perm (List.range a.toNat) := applySwaps_perm fun x hx => by
    obtain ⟨hfst, hsnd⟩ := shuffleSwaps_mem h x hx
    rw [List.length_range]
    omega
  have hlen : (applySwaps (List.range a.toNat) swaps).length = a.toNat := by
    rw [hperm.length_eq, List.length_range]
  exact ⟨e, p, _, hperm, fun i => by rw [hp i, hlen], hexec⟩

/-- Settles O43: both commands are the same run of pairs (`exec_perm_of_swaps`, `exec_shuf_of_swaps`). -/
theorem permAgreesWithShuffle : Obligations.PermAgreesWithShuffle := by
  intro a s hs ha
  obtain ⟨swaps, e, h⟩ := exists_shuffleSwaps (i := a.toNat - 1) (by omega) s.S
  obtain ⟨p, -, hperm⟩ := exec_perm_of_swaps hs ha h
  exact ⟨_, _, swaps, hperm, exec_shuf_of_swaps hs (by omega) h, rfl, shuffleSwaps_mem h, rfl, rfl⟩

end Sys2Proof.Proofs
end

section
/-! `READ` over the default engine (R171 to R176): its byte loop sends the bytes of the stream in order, reads of two
parts are one read of both, and what a read leaves is what remains of the last word it drew. -/

namespace Sys2Proof.Machine

/-! ## The byte loop -/

section

variable {σ : Type} {b : ByteBuffer σ}

/-- The loop goes on where it stopped: reading m bytes and then n is reading m + n (R173). -/
theorem readBytes_add (next : Source σ) (m n : Nat) (b : ByteBuffer σ) :
    readBytes next (m + n) b =
      ((readBytes next m b).1 ++ (readBytes next n (readBytes next m b).2).1,
       (readBytes next n (readBytes next m b).2).2) := by
  induction m generalizing b with
  | zero => rw [Nat.zero_add]; rfl
  | succ m ih => rw [Nat.succ_add, readBytes_succ, ih, readBytes_succ]; rfl

/-- Between two bytes at most 7 are held, so that the count fits `RDC` again (R171). -/
theorem readBytes_count_le (next : Source σ) (n : Nat) (h : b.count ≤ 7) : (readBytes next n b).2.count ≤ 7 := by
  induction n generalizing b with
  | zero => exact h
  | succ n ih =>
    refine ih ?_
    by_cases h₀ : b.count = 0
    · rw [ByteBuffer.refill_of_empty next h₀]
      exact le_rfl
    · rw [ByteBuffer.refill_of_held next h₀]
      exact (Nat.sub_le _ _).trans h

/-- Bytes that are held are taken from the low end of the leftover word, and nothing is drawn (R176). -/
theorem readBytes_held (next : Source σ) (s : σ) (v : Word) {n c : Nat} (h : n ≤ c) :
    (readBytes next n ⟨s, v, c⟩).2 = ⟨s, v >>> (8 * n), c - n⟩ := by
  induction n generalizing v c with
  | zero => rw [readBytes_zero, Nat.mul_zero, BitVec.ushiftRight_zero, Nat.sub_zero]
  | succ n ih =>
    cases c with
    | zero => exact absurd h (Nat.not_succ_le_zero n)
    | succ c =>
      calc (readBytes next (n + 1) ⟨s, v, c + 1⟩).2
          = (readBytes next n ⟨s, v >>> 8, c⟩).2 := rfl
        _ = ⟨s, v >>> 8 >>> (8 * n), c - n⟩ := ih _ (Nat.le_of_succ_le_succ h)
        _ = ⟨s, v >>> (8 * (n + 1)), c + 1 - (n + 1)⟩ := by
          rw [← BitVec.shiftRight_add, Nat.add_sub_add_right, Nat.mul_succ, Nat.add_comm (8 * n)]

end

/-! ## The bytes of the default engine -/

theorem byteAt_eq {w : Nat} (v : BitVec w) (k : Nat) : byteAt v k = BitVec.ofNat 8 (v.toNat / 2 ^ (8 * k)) := by
  apply BitVec.eq_of_toNat_eq
  rw [byteAt, BitVec.extractLsb'_toNat, BitVec.toNat_ofNat, Nat.shiftRight_eq_div_pow]

theorem toNat_shiftRight_bytes (v : Word) (n : Nat) : (v >>> (8 * n)).toNat = v.toNat / 2 ^ (8 * n) := by
  rw [BitVec.toNat_ushiftRight, Nat.shiftRight_eq_div_pow]

theorem shiftRight_byte_div {w : Nat} (v : BitVec w) (k : Nat) :
    (v >>> 8).toNat / 2 ^ (8 * k) = v.toNat / 2 ^ (8 * (k + 1)) := by
  rw [BitVec.toNat_ushiftRight, Nat.shiftRight_eq_div_pow, Nat.div_div_eq_div_mul, ← pow_add, Nat.mul_succ,
    Nat.add_comm 8]

/-- Behind the first byte of a held word the stream is that of the word shifted (R172). -/
theorem streamByte_shift (e : Engine) (v : Word) (c k : Nat) :
    streamByte e (v >>> 8) c k = streamByte e v (c + 1) (k + 1) := by
  simp only [streamByte, Nat.add_lt_add_iff_right, Nat.add_sub_add_right, shiftRight_byte_div]

/-- With nothing held the stream is that of the next word, held whole (R172). -/
theorem streamByte_refill (e : Engine) (v : Word) (k : Nat) :
    streamByte (engineAfter e 1) (rawWord e 0) 8 k = streamByte e v 0 k := by
  simp only [streamByte, Nat.not_lt_zero, if_false, Nat.sub_zero]
  split
  case isTrue hk => rw [Nat.div_eq_of_lt hk, Nat.mod_eq_of_lt hk]
  case isFalse hk =>
    rw [rawWord_engineAfter_one, ← Nat.mod_eq_sub_mod (not_lt.mp hk), Nat.div_eq_sub_div (by decide) (not_lt.mp hk)]

/-- The byte loop sends the bytes of the stream (R172). -/
theorem readBytes_eq_stream (n : Nat) (e : Engine) (v : Word) (c : Nat) :
    (readBytes nextWord n ⟨e, v, c⟩).1 = (List.range n).map (streamByte e v c) := by
  induction n generalizing e v c with
  | zero => rfl
  | succ n ih =>
    have hheld (e : Engine) (v : Word) (c : Nat) :
        byteAt v 0 :: (readBytes nextWord n ⟨e, v >>> 8, c⟩).1 =
          (List.range (n + 1)).map (streamByte e v (c + 1)) := by
      rw [ih, List.range_succ_eq_map, List.map_cons, List.map_map, byteAt_eq]
      exact congrArg _ (List.map_congr_left fun k _ => streamByte_shift e v c k)
    cases c with
    | zero =>
      rw [← funext (streamByte_refill e v)]
      exact hheld (engineAfter e 1) (rawWord e 0) 7
    | succ c => exact hheld e v c

/-! ## What a read leaves -/

/-- With nothing held, up to 8 bytes come from one word (R171). -/
theorem readBytes_word (e : Engine) (v : Word) {n : Nat} (h₀ : 0 < n) (h₈ : n ≤ 8) :
    (readBytes nextWord n ⟨e, v, 0⟩).2 = ⟨engineAfter e 1, rawWord e 0 >>> (8 * n), 8 - n⟩ := by
  obtain ⟨n, rfl⟩ := Nat.exists_eq_add_one_of_ne_zero h₀.ne'
  exact readBytes_held nextWord (engineAfter e 1) (rawWord e 0) h₈

/-- With nothing held, q times 8 bytes are q words, and nothing is held again. -/
theorem readBytes_words (e : Engine) (v : Word) (q : Nat) :
    ∃ w, (readBytes nextWord (8 * q) ⟨e, v, 0⟩).2 = ⟨engineAfter e q, w, 0⟩ := by
  induction q with
  | zero => exact ⟨v, rfl⟩
  | succ q ih =>
    obtain ⟨w, hw⟩ := ih
    refine ⟨rawWord (engineAfter e q) 0 >>> (8 * 8), ?_⟩
    rw [Nat.mul_succ, readBytes_add, hw]
    exact readBytes_word (engineAfter e q) w (by decide) le_rfl

/-- A read beyond the held bytes leaves what remains of the last word drawn (R176). -/
theorem readBytes_drawn (e : Engine) (v : Word) {c n : Nat} (h : c < n) :
    (readBytes nextWord n ⟨e, v, c⟩).2 =
      ⟨engineAfter e ((n - c + 7) / 8),
       rawWord e ((n - c + 7) / 8 - 1) >>> (8 * (8 - (8 - (n - c) % 8) % 8)),
       (8 - (n - c) % 8) % 8⟩ := by
  obtain ⟨q, r, hr, rfl⟩ : ∃ q r, r < 8 ∧ n = c + (8 * q + (r + 1)) :=
    ⟨(n - c - 1) / 8, (n - c - 1) % 8, Nat.mod_lt _ (by decide), by omega⟩
  obtain ⟨w, hw⟩ := readBytes_words e (v >>> (8 * c)) q
  have hwords : (c + (8 * q + (r + 1)) - c + 7) / 8 = q + 1 := by omega
  have hleft : (8 - (c + (8 * q + (r + 1)) - c) % 8) % 8 = 8 - (r + 1) := by omega
  rw [readBytes_add, readBytes_held nextWord e v le_rfl, Nat.sub_self, readBytes_add, hw]
  simp only
  rw [readBytes_word _ _ r.succ_pos hr, engineAfter_add, rawWord_engineAfter, hwords, hleft, Nat.sub_sub_self hr,
    Nat.add_sub_cancel]
  rfl

/-! ## The command -/

/-- The state after a `READ` of the length `a` (R171). -/
def State.afterRead (s : State) (a : Word) : State :=
  ((s.setBuffer (readBytes nextWord a.toNat s.byteBuffer).2).emit
    ((readBytes nextWord a.toNat s.byteBuffer).1.map .bout)).respond .ok a

section

variable {s : State} {a : Word}

@[simp] theorem State.afterRead_S (s : State) (a : Word) :
    (s.afterRead a).S = (readBytes nextWord a.toNat s.byteBuffer).2.source := rfl
@[simp] theorem State.afterRead_RDV (s : State) (a : Word) :
    (s.afterRead a).RDV = (readBytes nextWord a.toNat s.byteBuffer).2.value := rfl
@[simp] theorem State.afterRead_OUT (s : State) (a : Word) :
    (s.afterRead a).OUT = s.OUT ++ (readBytes nextWord a.toNat s.byteBuffer).1.map .bout ++ [.rsp ⟨.ok, a⟩] := rfl

/-- The count fits `RDC`, so that nothing of it is lost (R171). -/
@[simp] theorem State.afterRead_RDC_toNat (s : State) (a : Word) :
    (s.afterRead a).RDC.toNat = (readBytes nextWord a.toNat s.byteBuffer).2.count := by
  have hcount : s.byteBuffer.count ≤ 7 := Nat.le_of_lt_succ s.RDC.isLt
  exact Nat.mod_eq_of_lt (Nat.lt_succ_of_le (readBytes_count_le nextWord a.toNat hcount))

/-- The next read starts from the working registers that this one left. -/
theorem State.afterRead_byteBuffer (s : State) (a : Word) :
    (s.afterRead a).byteBuffer = (readBytes nextWord a.toNat s.byteBuffer).2 := by
  rw [byteBuffer, afterRead_RDC_toNat, afterRead_S, afterRead_RDV]

/-- A seeded `READ` of a length that is not negative (R171). -/
theorem exec_read_seeded (hs : s.SEEDED = true) (ha : a.toNat < 2 ^ 63) :
    exec (.read a) s = .next (s.afterRead a) := by
  rw [exec_read, execRead, readWith, withSeed_seeded hs, signed64_of_lt ha, defaultParameters_step, readCommand,
    if_neg (by omega), Int.toNat_natCast, word_toNat_eq_self, complete_eq, State.afterRead]

end

/-! ## The bytes on `BOUT` -/

@[simp] theorem boutOf_append (xs ys : List OutItem) : boutOf (xs ++ ys) = boutOf xs ++ boutOf ys :=
  List.filterMap_append

@[simp] theorem boutOf_map_bout (bs : List Byte) : boutOf (bs.map .bout) = bs := by
  induction bs with
  | nil => rfl
  | cons b bs ih => exact congrArg (b :: ·) ih

@[simp] theorem boutOf_rsp (x : Response) : boutOf [.rsp x] = [] := rfl

end Sys2Proof.Machine

namespace Sys2Proof.Proofs

open Sys2Proof Sys2Proof.Machine

/-- Settles O45: the bytes are those of the stream (`readBytes_eq_stream`); the registers are the held word shifted
(`readBytes_held`), or the last word drawn (`readBytes_drawn`). -/
theorem readDeliversTheByteStream : Obligations.ReadDeliversTheByteStream := by
  intro a s hs ha
  refine ⟨_, exec_read_seeded hs ha, ?bytes, fun hle => ?held, fun hlt => ?drawn, rfl, rfl, rfl, rfl⟩
  case bytes =>
    rw [State.afterRead_OUT, State.byteBuffer, readBytes_eq_stream, List.map_map]
    rfl
  case held =>
    rw [State.afterRead_S, State.afterRead_RDC_toNat, State.afterRead_RDV, State.byteBuffer, readBytes_held _ _ _ hle]
    exact ⟨rfl, rfl, toNat_shiftRight_bytes _ _⟩
  case drawn =>
    rw [State.afterRead_S, State.afterRead_RDC_toNat, State.afterRead_RDV, State.byteBuffer, readBytes_drawn _ _ hlt]
    exact ⟨rfl, rfl, toNat_shiftRight_bytes _ _⟩

/-- Settles O46: the second read starts where the first stopped (`State.afterRead_byteBuffer`), and the byte loop goes
on there (`readBytes_add`). -/
theorem readGranularityDoesNotMatter : Obligations.ReadGranularityDoesNotMatter := by
  intro a b s hs hab
  have hsum : (a + b).toNat = a.toNat + b.toNat := by
    rw [BitVec.toNat_add, Nat.mod_eq_of_lt (by omega)]
  have hread := readBytes_add nextWord a.toNat b.toNat s.byteBuffer
  rw [← hsum, ← s.afterRead_byteBuffer a] at hread
  have hs₁ : (s.afterRead a).SEEDED = true := hs
  refine ⟨_, _, _, exec_read_seeded hs (by omega), exec_read_seeded hs₁ (by omega), exec_read_seeded hs (by omega),
    ?bytes, ?engine, ?value, BitVec.eq_of_toNat_eq ?count⟩
  case bytes =>
    simp only [State.afterRead_OUT, boutOf_append, boutOf_map_bout, boutOf_rsp, List.append_nil, hread,
      List.append_assoc, List.nil_append]
  case engine => rw [State.afterRead_S, State.afterRead_S, hread]
  case value => rw [State.afterRead_RDV, State.afterRead_RDV, hread]
  case count => rw [State.afterRead_RDC_toNat, State.afterRead_RDC_toNat, hread]

end Sys2Proof.Proofs
end

section
/-! The state codec (R180 to R189): little-endian bytes and the number they stand for, the payloads that `UNMARSHAL`
accepts, and the round trip in both directions: a snapshot in canonical form is parsed back, and a payload accepted is
the string of its snapshot. -/

namespace Sys2Proof.Machine

/-! ## Little-endian bytes -/

section

variable {w n k : Nat} {v : BitVec w} {bs cs : List Byte}

theorem byteAt_toNat (v : BitVec w) (k : Nat) : (byteAt v k).toNat = v.toNat / 2 ^ (8 * k) % 256 := by
  rw [byteAt_eq, BitVec.toNat_ofNat]

theorem getD_leBytes (hk : k < n) : (leBytes n v).getD k 0#8 = byteAt v k := by
  rw [List.getD_eq_getElem _ _ (by rwa [leBytes_length])]
  simp [leBytes]

theorem leBytes_succ (n : Nat) (v : BitVec w) : leBytes (n + 1) v = byteAt v 0 :: leBytes n (v >>> 8) := by
  rw [leBytes, List.range_succ_eq_map, List.map_cons, List.map_map, leBytes]
  refine congrArg _ (List.map_congr_left fun k _ => BitVec.eq_of_toNat_eq ?_)
  rw [Function.comp_apply, byteAt_toNat, byteAt_toNat, shiftRight_byte_div]

theorem leValue_cons (b : Byte) (bs : List Byte) : leValue (b :: bs) = b.toNat + 256 * leValue bs := rfl

/-- The bytes of a value stand for its low bits (R41, R184). -/
theorem leValue_leBytes (n : Nat) (v : BitVec w) : leValue (leBytes n v) = v.toNat % 2 ^ (8 * n) := by
  induction n generalizing v with
  | zero => rw [Nat.mul_zero, pow_zero, Nat.mod_one]; rfl
  | succ n ih =>
    rw [leBytes_succ, leValue_cons, ih, byteAt_toNat, Nat.mul_zero, pow_zero, Nat.div_one, BitVec.toNat_ushiftRight,
      Nat.shiftRight_eq_div_pow, Nat.mul_succ, Nat.add_comm (8 * n), pow_add, Nat.mod_mul]
    rfl

theorem leValue_lt (bs : List Byte) : leValue bs < 2 ^ (8 * bs.length) :=
  leValue_lt_of_zero_from fun _ hk => List.getD_eq_default _ _ hk

/-- As many bytes and the same number: the same bytes. -/
theorem leValue_injective (hlen : bs.length = cs.length) (h : leValue bs = leValue cs) : bs = cs := by
  induction bs generalizing cs with
  | nil => exact (List.length_eq_zero_iff.mp hlen.symm).symm
  | cons b bs ih =>
    cases cs with
    | nil => cases hlen
    | cons c cs =>
      rw [leValue_cons, leValue_cons] at h
      have hb := b.isLt
      have hc := c.isLt
      have hhead : b = c := BitVec.eq_of_toNat_eq (by omega)
      rw [hhead, ih (Nat.succ.inj hlen) (by omega)]

/-- Bytes that fit are those of the number they stand for. -/
theorem leBytes_leValue (hn : bs.length = n) (hw : 8 * n ≤ w) : leBytes n (BitVec.ofNat w (leValue bs)) = bs := by
  have hlt : leValue bs < 2 ^ (8 * n) := hn ▸ leValue_lt bs
  apply leValue_injective (by rw [leBytes_length, hn])
  rw [leValue_leBytes, BitVec.toNat_ofNat, Nat.mod_eq_of_lt (hlt.trans_le (Nat.pow_le_pow_right two_pos hw)),
    Nat.mod_eq_of_lt hlt]

/-- The number as the sum that R184 writes. -/
theorem leValue_eq_sum (bs : List Byte) :
    leValue bs = ∑ k ∈ Finset.range bs.length, (bs.getD k 0#8).toNat * 2 ^ (8 * k) := by
  induction bs with
  | nil => rfl
  | cons b bs ih =>
    rw [leValue_cons, ih, List.length_cons, Finset.sum_range_succ', Nat.add_comm, Finset.mul_sum]
    congr 1
    · exact Finset.sum_congr rfl fun k _ => by rw [List.getD_cons_succ]; ring
    · exact (Nat.mul_one _).symm

/-- The same for a part of a payload. -/
theorem leValue_part (b : List Byte) {i n : Nat} (h : i + n ≤ b.length) :
    leValue ((b.drop i).take n) = ∑ k ∈ Finset.range n, (b.getD (i + k) 0#8).toNat * 2 ^ (8 * k) := by
  have hlen : ((b.drop i).take n).length = n := by
    rw [List.length_take, List.length_drop]
    omega
  rw [leValue_eq_sum, hlen]
  refine Finset.sum_congr rfl fun k hk => ?_
  rw [List.getD_eq_getElem?_getD, List.getElem?_take_of_lt (Finset.mem_range.mp hk), List.getElem?_drop,
    List.getD_eq_getElem?_getD]

end

/-! ## The parts of a snapshot -/

section

variable {ver : Byte} {x : Snapshot} {b : List Byte} {k : Nat}

theorem payloadByte_bytes_version (ver : Byte) (x : Snapshot) : payloadByte (x.bytes ver) 0 = ver := rfl

/-- The count goes out as a byte and loses nothing (R181). -/
theorem toNat_countByte (c : BitVec 3) : (c.setWidth 8).toNat = c.toNat := BitVec.toNat_setWidth_of_le (by decide)

theorem payloadByte_bytes_count (ver : Byte) (x : Snapshot) : payloadByte (x.bytes ver) 17 = x.RDC.setWidth 8 := rfl

theorem payloadByte_bytes_engine (ver : Byte) (x : Snapshot) (hk : k < 16) :
    payloadByte (x.bytes ver) (1 + k) = byteAt x.S k := by
  rw [payloadByte, Snapshot.bytes, Nat.add_comm, List.getD_cons_succ, List.getD_append _ _ _ _ (by simpa using hk),
    getD_leBytes hk]

theorem payloadByte_bytes_leftover (ver : Byte) (x : Snapshot) (hk : k < 7) :
    payloadByte (x.bytes ver) (18 + k) = byteAt x.RDV k := by
  have hindex : 18 + k = k + 1 + 16 + 1 := by omega
  have hcount : k + 1 + 16 - 16 = k + 1 := Nat.add_sub_cancel _ _
  rw [payloadByte, Snapshot.bytes, hindex, List.getD_cons_succ, List.getD_append_right _ _ _ _ (by simp),
    leBytes_length, hcount, List.getD_cons_succ, getD_leBytes hk]

/-- A payload is its version, 16 bytes of `S`, its count and 7 bytes of `RDV` (R181). -/
theorem payload_eq_parts (h : b.length = Config.snapLen) :
    b = payloadByte b 0 :: ((b.drop 1).take 16 ++ (payloadByte b 17 :: (b.drop 18).take 7)) := by
  have hlen : b.length = 25 := h
  have hrest : (b.drop 18).take 7 = b.drop 18 := List.take_of_length_le (by rw [List.length_drop, hlen])
  have hversion : payloadByte b 0 = b[0] := List.getD_eq_getElem _ _ _
  have hcount : payloadByte b 17 = b[17] := List.getD_eq_getElem _ _ _
  calc b = b[0] :: b.drop 1 := by rw [List.getElem_cons_drop, List.drop_zero]
    _ = b[0] :: ((b.drop 1).take 16 ++ b.drop 17) := by
      rw [← List.drop_drop (i := 16) (j := 1), List.take_append_drop]
    _ = b[0] :: ((b.drop 1).take 16 ++ (b[17] :: b.drop 18)) := by rw [List.getElem_cons_drop]
    _ = _ := by rw [hversion, hcount, hrest]

/-! ## The payloads that `UNMARSHAL` accepts -/

/-- The four checks of R184. -/
def Acceptable (ver : Byte) (b : List Byte) : Prop :=
  b.length = Config.snapLen ∧ payloadByte b 0 = ver ∧ (payloadByte b 17).toNat ≤ 7 ∧
    ∀ k, (payloadByte b 17).toNat ≤ k → k < 7 → payloadByte b (18 + k) = 0#8

/-- What a payload loads when it is accepted (R184). -/
def payloadSnapshot (b : List Byte) : Snapshot where
  S := BitVec.ofNat 128 (leValue ((b.drop 1).take 16))
  RDC := (payloadByte b 17).setWidth 3
  RDV := BitVec.ofNat 64 (leValue ((b.drop 18).take 7))

theorem paddingZero_iff {c : Nat} : paddingZero b c = true ↔ ∀ k, c ≤ k → k < 7 → payloadByte b (18 + k) = 0#8 := by
  refine ⟨fun h k => payloadByte_of_paddingZero h, fun h => List.all_eq_true.mpr fun k hk => ?_⟩
  rw [Bool.or_eq_true, decide_eq_true_iff, beq_iff_eq]
  exact (Nat.lt_or_ge k c).imp_right fun hc => h k hc (List.mem_range.mp hk)

/-- `UNMARSHAL` accepts exactly the payloads that pass the four checks, and loads what they hold (R184). -/
theorem parseSnapshot_eq_some_iff : parseSnapshot ver b = some x ↔ Acceptable ver b ∧ x = payloadSnapshot b := by
  constructor
  · intro h
    obtain ⟨hlen, hver, hcount, hpad, hx⟩ := parseSnapshot_some h
    exact ⟨⟨hlen, hver, hcount, paddingZero_iff.mp hpad⟩, hx⟩
  · rintro ⟨⟨hlen, hver, hcount, hpad⟩, rfl⟩
    rw [parseSnapshot, if_neg (not_not.mpr hlen), if_neg (not_not.mpr hver), if_neg (not_lt.mpr hcount),
      paddingZero_iff.mpr hpad, if_neg Bool.true_eq_false.mp]
    rfl

theorem parseSnapshot_eq_none (h : ¬ Acceptable ver b) : parseSnapshot ver b = none :=
  Option.eq_none_iff_forall_ne_some.mpr fun _ hx => h (parseSnapshot_eq_some_iff.mp hx).1

/-! ## The round trip -/

/-- A snapshot in canonical form passes the checks and is loaded as it was (R185). -/
theorem parseSnapshot_bytes (ver : Byte) (hx : x.RDV.toNat < 2 ^ (8 * x.RDC.toNat)) :
    parseSnapshot ver (x.bytes ver) = some x := by
  have hcount := toNat_countByte x.RDC
  have hwidth : (x.RDC.setWidth 8).setWidth 3 = x.RDC :=
    BitVec.eq_of_toNat_eq (by rw [BitVec.toNat_setWidth, hcount, Nat.mod_eq_of_lt x.RDC.isLt])
  have hRDC : x.RDC.toNat ≤ 7 := Nat.le_of_lt_succ x.RDC.isLt
  have hRDV : x.RDV.toNat < 2 ^ (8 * 7) :=
    hx.trans_le (Nat.pow_le_pow_right two_pos (Nat.mul_le_mul_left 8 hRDC))
  refine parseSnapshot_eq_some_iff.mpr
    ⟨⟨Snapshot.bytes_length ver x, payloadByte_bytes_version ver x, ?count, ?pad⟩, ?same⟩
  case count => rwa [payloadByte_bytes_count, hcount]
  case pad =>
    intro k hk hk₇
    rw [payloadByte_bytes_count, hcount] at hk
    rw [payloadByte_bytes_leftover ver x hk₇, byteAt_eq,
      Nat.div_eq_of_lt (hx.trans_le (Nat.pow_le_pow_right two_pos (Nat.mul_le_mul_left 8 hk)))]
  case same =>
    have hS : ((x.bytes ver).drop 1).take 16 = leBytes 16 x.S := rfl
    have hV : ((x.bytes ver).drop 18).take 7 = leBytes 7 x.RDV := rfl
    rw [payloadSnapshot, hS, hV, leValue_leBytes, leValue_leBytes, payloadByte_bytes_count, hwidth,
      Nat.mod_eq_of_lt x.S.isLt, Nat.mod_eq_of_lt hRDV, BitVec.ofNat_toNat, BitVec.ofNat_toNat, BitVec.setWidth_eq,
      BitVec.setWidth_eq]

/-- A payload that is accepted is the string of the snapshot it loads (R186). -/
theorem bytes_of_parseSnapshot (h : parseSnapshot ver b = some x) : x.bytes ver = b := by
  obtain ⟨⟨hlen, hver, hcount, -⟩, rfl⟩ := parseSnapshot_eq_some_iff.mp h
  have hlen₂₅ : b.length = 25 := hlen
  have hRDC : ((payloadByte b 17).setWidth 3).setWidth 8 = payloadByte b 17 := by
    apply BitVec.eq_of_toNat_eq
    rw [BitVec.toNat_setWidth, BitVec.toNat_setWidth]
    omega
  conv_rhs => rw [payload_eq_parts hlen]
  rw [Snapshot.bytes, payloadSnapshot, hver, hRDC, leBytes_leValue (by simp [hlen₂₅]) (by decide),
    leBytes_leValue (by simp [hlen₂₅]) (by decide)]

end

/-! ## The commands -/

section

variable {s : State} {a : Word} {x : Snapshot} {b rest : List Byte}

/-- A seeded `MARSHAL` (R182). -/
theorem exec_marshal_seeded (hs : s.SEEDED = true) (a : Word) :
    exec (.marshal a) s = .next { s with
      CMD := s.CMD.tail
      OUT := s.OUT ++ (s.snapshot.bytes Config.snapVer).map .bout ++ [.rsp ⟨.ok, 25#64⟩] } := by
  rw [exec_marshal, execMarshal, marshalWith, withSeed_seeded hs]
  rfl

/-- With its payload on `DIN`, `UNMARSHAL` takes all of it, whatever the checks say (R184). -/
theorem exec_unmarshal_of_payload (hdin : s.DIN = b ++ rest) (hlen : b.length = a.toNat) :
    exec (.unmarshal a) s =
      (parseSnapshot Config.snapVer b).elim (.next (State.respond { s with DIN := rest } .formatError 0#64))
        fun x => .next ((State.restore { s with DIN := rest } x).respond .ok 0#64) := by
  have hdrop : s.dropDin a.toNat = { s with DIN := rest } := by rw [State.dropDin, hdin, ← hlen, List.drop_left]
  rw [exec_unmarshal, execUnmarshal, unmarshalWith, unsigned64, hdrop, hdin, ← hlen, List.take_left,
    if_neg (by simp), defaultParameters_snapVer]
  cases parseSnapshot Config.snapVer b <;> rfl

/-- A payload accepted is restored. -/
theorem exec_unmarshal_accepts (hdin : s.DIN = b ++ rest) (hlen : b.length = a.toNat)
    (hx : parseSnapshot Config.snapVer b = some x) :
    exec (.unmarshal a) s = .next { s with
      S := x.S, RDV := x.RDV, RDC := x.RDC, SEEDED := true, DIN := rest, CMD := s.CMD.tail
      OUT := s.OUT ++ [.rsp ⟨.ok, 0#64⟩] } := by
  rw [exec_unmarshal_of_payload hdin hlen, hx]
  rfl

/-- A payload refused is answered `FormatError`, and nothing else changes. -/
theorem exec_unmarshal_refuses (hdin : s.DIN = b ++ rest) (hlen : b.length = a.toNat)
    (hx : parseSnapshot Config.snapVer b = none) :
    exec (.unmarshal a) s = .next { s with
      DIN := rest, CMD := s.CMD.tail, OUT := s.OUT ++ [.rsp ⟨.formatError, 0#64⟩] } := by
  rw [exec_unmarshal_of_payload hdin hlen, hx]
  rfl

end

end Sys2Proof.Machine

namespace Sys2Proof.Proofs

open Sys2Proof Sys2Proof.Machine

/-- Settles O50: the bytes on `BOUT` are those of the snapshot, which is in canonical form and so is parsed back
(`parseSnapshot_bytes`). -/
theorem snapshotResumesExactly : Obligations.SnapshotResumesExactly := by
  intro a g h b rest t hg hcanonical hmarshal hout hdin
  rw [exec_marshal_seeded hg] at hmarshal
  cases hmarshal
  have hb : g.snapshot.bytes Config.snapVer = b := by
    rw [List.append_cancel_right_eq, List.append_cancel_left_eq] at hout
    exact List.map_injective_iff.mpr (fun _ _ => OutItem.bout.inj) hout
  have hparse : parseSnapshot Config.snapVer b = some g.snapshot := hb ▸ parseSnapshot_bytes _ (hcanonical hg)
  exact exec_unmarshal_accepts hdin (hb ▸ Snapshot.bytes_length _ _) hparse

/-- Settles O51: only an accepted payload is answered `OK`, and it is the string of the snapshot loaded
(`bytes_of_parseSnapshot`). -/
theorem remarshalIsExact : Obligations.RemarshalIsExact := by
  intro a s t b rest hdin hlen hunmarshal hok
  cases hx : parseSnapshot Config.snapVer b with
  | some x =>
    rw [exec_unmarshal_accepts (a := 25#64) hdin hlen hx] at hunmarshal
    cases hunmarshal
    refine ⟨_, exec_marshal_seeded rfl a, ?_⟩
    rw [← bytes_of_parseSnapshot hx]
    rfl
  | none =>
    rw [exec_unmarshal_refuses (a := 25#64) hdin hlen hx] at hunmarshal
    cases hunmarshal
    simp at hok

/-- Settles O47: byte by byte, what `MARSHAL` emits is the snapshot of the state (`payloadByte_bytes_engine`,
`payloadByte_bytes_leftover`). -/
theorem marshalEmitsTheSnapshot : Obligations.MarshalEmitsTheSnapshot := by
  intro a s
  refine ⟨decode_eq_ok_iff.mpr rfl, fun hs => ?seeded, fun hs => withSeed_unseeded hs _⟩
  case seeded =>
    refine ⟨s.snapshot.bytes Config.snapVer, Snapshot.bytes_length _ _, exec_marshal_seeded hs a, rfl,
      fun k hk => ?engine, ?count, fun k hk => ?leftover⟩
    case engine => exact (congrArg BitVec.toNat (payloadByte_bytes_engine _ _ hk)).trans (byteAt_toNat _ _)
    case count => exact toNat_countByte s.RDC
    case leftover => exact (congrArg BitVec.toNat (payloadByte_bytes_leftover _ _ hk)).trans (byteAt_toNat _ _)

/-- Settles O48: the payload named is `Acceptable`, and what it loads is written as the sums of R184 (`leValue_part`);
any other payload is refused, and taken all the same (`exec_unmarshal_refuses`). -/
theorem unmarshalChecksAndRestores : Obligations.UnmarshalChecksAndRestores := by
  intro a s b rest hdin hlen
  refine ⟨decode_eq_ok_iff.mpr rfl, fun haccept => ?accepted, fun hrefuse => ?refused, rfl⟩
  case accepted =>
    have hb : b.length = 25 := haccept.1
    rw [exec_unmarshal_accepts hdin hlen (parseSnapshot_eq_some_iff.mpr ⟨haccept, rfl⟩), payloadSnapshot,
      leValue_part b (by omega), leValue_part b (by omega), ← BitVec.ofNat_toNat]
    rfl
  case refused => exact exec_unmarshal_refuses hdin hlen (parseSnapshot_eq_none hrefuse)

/-- Settles O49: the check of the bytes on `DIN` comes before anything is taken. -/
theorem unmarshalWaitsForItsPayload : Obligations.UnmarshalWaitsForItsPayload :=
  fun _ _ hshort => if_pos hshort

end Sys2Proof.Proofs
end

section
/-! Errors (R200 to R213) and the step without a command to perform (R205, R222): each check comes before anything is drawn,
emitted or written, and what fails it is answered with its code and changes nothing. -/

namespace Sys2Proof.Machine

/-! ## The step without a legal command (R205, R222) -/

/-- The opcode map has 21 rows: any other opcode is in none. -/
theorem ofOpcode_eq_none {op : BitVec 8} {a : Word}
    (h : op.toNat ∉ [0x01, 0x02, 0x03, 0x04, 0x05, 0x06, 0x10, 0x11, 0x12, 0x13, 0x14, 0x20, 0x21, 0x28, 0x29, 0x2A, 0x30,
      0x31, 0x38, 0x40, 0x41]) : ofOpcode op a = none := by
  refine Option.eq_none_iff_forall_ne_some.mpr fun i hi => h ?_
  rw [(opcode_operand_of_ofOpcode hi).1]
  cases i <;> simp [Instr.opcode]

section

variable {run : Instr → State → Host.Outcome State Fault Refusal} {s : State}

theorem performNext_idle (h : s.CMD = []) : performNext run s = .next s := by
  simp only [performNext, h]

theorem performNext_of_illegal {w : CommandWord} {rest : List CommandWord} {e : DecodeError} (hcmd : s.CMD = w :: rest)
    (hw : decode w = .error e) : performNext run s = .next (s.afterError .illegalCommand) := by
  simp only [performNext, hcmd, hw, raise_eq]

end

/-! ## Bounds and sizes (R202, R203, R207) -/

section

variable {s : State} {a : Word}

theorem boundedCommand_of_nonpos (hs : s.SEEDED = true) {n : Int} (hn : n ≤ 0) (W : Nat)
    (draw : Engine → Nat × Engine) : boundedCommand n W draw s = .next (s.afterError .domainError) := by
  rw [boundedCommand, withSeed_seeded hs, if_pos hn, raise_eq]

/-- From `2^63` on the operand is a negative number (R7). -/
theorem signed64_neg (h : 2 ^ 63 ≤ a.toNat) : signed64 a < 0 :=
  BitVec.toInt_neg_iff.mpr (by omega)

theorem signed64_nonpos (h : a.toNat = 0 ∨ 2 ^ 63 ≤ a.toNat) : signed64 a ≤ 0 := by
  rcases h with hzero | hneg
  · rw [signed64_of_lt (by omega), hzero]
    exact le_rfl
  · exact (signed64_neg hneg).le

theorem signed32_nonpos (h : a.toNat % 2 ^ 32 = 0 ∨ 2 ^ 31 ≤ a.toNat % 2 ^ 32) : signed32 a ≤ 0 := by
  rcases h with hzero | hneg
  · rw [signed32_of_lt (by omega), hzero]
    exact le_rfl
  · rw [← unsigned32_eq, unsigned32] at hneg
    exact (BitVec.toInt_neg_iff.mpr (by omega)).le

theorem permWith_of_neg (hs : s.SEEDED = true) (h : 2 ^ 63 ≤ a.toNat) (par : Parameters) :
    permWith par a s = .next (s.afterError .invalidArgument) := by
  rw [permWith, withSeed_seeded hs, permCommand, if_pos (signed64_neg h), raise_eq]

/-- A size above the capacity of the block (R167, R207). -/
theorem permWith_of_large (hs : s.SEEDED = true) {par : Parameters} (hcap : par.permMax < a.toNat)
    (h : a.toNat < 2 ^ 63) : permWith par a s = .next (s.afterError .capacityError) := by
  rw [permWith, withSeed_seeded hs, permCommand, signed64_of_lt h, if_neg (by omega), if_pos (by omega), raise_eq]

theorem shufWith_of_neg (hs : s.SEEDED = true) (h : 2 ^ 63 ≤ a.toNat) (par : Parameters) :
    shufWith par a s = .next (s.afterError .invalidArgument) := by
  rw [shufWith, withSeed_seeded hs, shufCommand, if_pos (signed64_neg h), raise_eq]

theorem readWith_of_neg (hs : s.SEEDED = true) (h : 2 ^ 63 ≤ a.toNat) (par : Parameters) :
    readWith par a s = .next (s.afterError .invalidArgument) := by
  rw [readWith, withSeed_seeded hs, readCommand, if_pos (signed64_neg h), raise_eq]

end

/-! ## Commands of a block that is not seeded (R206) -/

section

variable {par : Parameters} {i : Instr} {s t : State}

/-- The seed check is the first thing such a command does. -/
theorem execWith_unseeded (hs : s.SEEDED = false) (hi : needsSeed i = true) (par : Parameters) :
    execWith par i s = .next (s.afterError .notSeeded) := by
  cases i with
  | seed | zrom | unmarshal => exact absurd hi Bool.false_ne_true
  | _ => exact withSeed_unseeded hs _

/-- From `s` to `t` a command was answered with something else than `NotSeeded`, or it waits. -/
def NotTurnedAway (s t : State) : Prop := t = s ∨ ∃ u st r, st ≠ .notSeeded ∧ t = State.respond u st r

theorem NotTurnedAway.respond (u : State) {st : Status} (r : Word) (h : st ≠ .notSeeded) :
    NotTurnedAway s (u.respond st r) := .inr ⟨u, st, r, h, rfl⟩

theorem NotTurnedAway.afterDraws (e : Engine) (r : Word) : NotTurnedAway s (s.afterDraws e r) :=
  .respond (s.setS e) r (by decide)

theorem NotTurnedAway.afterError (u : State) {e : Status} (h : e ≠ .notSeeded) : NotTurnedAway s (u.afterError e) :=
  .respond u 0#64 h

theorem NotTurnedAway.out_ne (h : NotTurnedAway s t) : t.OUT ≠ s.OUT ++ [.rsp ⟨.notSeeded, 0#64⟩] := by
  rcases h with rfl | ⟨u, st, r, hst, rfl⟩
  · exact fun hout => List.cons_ne_nil _ _ (List.self_eq_append_right.mp hout)
  · intro hout
    have hlast := List.append_inj_right' hout rfl
    simp only [List.cons.injEq, OutItem.rsp.injEq, Response.mk.injEq] at hlast
    exact hst hlast.1.1

section

variable (hs : s.SEEDED = true)

include hs

theorem not_unseeded {p : Prop} (h : s.SEEDED = false) : p := Bool.noConfusion (hs.symm.trans h)

theorem drawCommand_notTurnedAway {d : Nat × Engine} (h : withSeed s (answerDraw d s) = .next t) :
    NotTurnedAway s t := by
  rcases drawCommand_next h with ⟨hs', -⟩ | ⟨-, rfl⟩
  · exact not_unseeded hs hs'
  · exact .afterDraws _ _

theorem boundedCommand_notTurnedAway {n : Int} {W : Nat} {draw : Engine → Nat × Engine}
    (h : boundedCommand n W draw s = .next t) : NotTurnedAway s t := by
  rcases boundedCommand_next h with ⟨hs', -⟩ | ⟨-, -, rfl⟩ | ⟨-, -, v, e, -, rfl⟩
  · exact not_unseeded hs hs'
  · exact .afterError _ (by decide)
  · exact .afterDraws _ _

theorem sampleCommand_notTurnedAway {d : Option (Word × Engine)} (h : withSeed s (answerSample d s) = .next t) :
    NotTurnedAway s t := by
  rcases sampleCommand_next h with ⟨hs', -⟩ | ⟨-, r, e, -, rfl⟩
  · exact not_unseeded hs hs'
  · exact .afterDraws _ _

theorem permWith_notTurnedAway {a : Word} (h : permWith par a s = .next t) : NotTurnedAway s t := by
  rcases permWith_next h with ⟨hs', -⟩ | ⟨-, -, rfl⟩ | ⟨-, -, -, rfl⟩ | ⟨-, -, -, r, -, rfl⟩
  · exact not_unseeded hs hs'
  · exact .afterError _ (by decide)
  · exact .afterError _ (by decide)
  · exact .respond _ _ (by decide)

theorem shufWith_notTurnedAway {a : Word} (h : shufWith par a s = .next t) : NotTurnedAway s t := by
  rcases shufWith_next h with ⟨hs', -⟩ | ⟨-, -, rfl⟩ | ⟨-, -, swaps, e, -, rfl⟩
  · exact not_unseeded hs hs'
  · exact .afterError _ (by decide)
  · exact .respond _ _ (by decide)

theorem readWith_notTurnedAway {a : Word} (h : readWith par a s = .next t) : NotTurnedAway s t := by
  rcases readWith_next h with ⟨hs', -⟩ | ⟨-, -, rfl⟩ | ⟨-, -, rfl⟩
  · exact not_unseeded hs hs'
  · exact .afterError _ (by decide)
  · exact .respond _ _ (by decide)

theorem marshalWith_notTurnedAway {a : Word} (h : marshalWith par a s = .next t) : NotTurnedAway s t := by
  rcases marshalWith_next h with ⟨hs', -⟩ | ⟨-, rfl⟩
  · exact not_unseeded hs hs'
  · exact .respond _ _ (by decide)

end

theorem execZrom_notTurnedAway {a : Word} (h : execZrom a s = .next t) : NotTurnedAway s t := by
  rw [execZrom_eq] at h
  split at h
  · cases h
    exact .afterDraws _ _
  · cases h
    exact .afterError _ (by decide)

theorem unmarshalWith_notTurnedAway {a : Word} (h : unmarshalWith par a s = .next t) : NotTurnedAway s t := by
  rcases unmarshalWith_next h with ⟨-, rfl⟩ | ⟨-, x, -, rfl⟩ | ⟨-, -, rfl⟩
  · exact .inl rfl
  · exact .respond _ _ (by decide)
  · exact .afterError _ (by decide)

/-- Once seeded, no command is answered `NotSeeded` (R206). -/
theorem execWith_notTurnedAway (hs : s.SEEDED = true) (h : execWith par i s = .next t) : NotTurnedAway s t := by
  cases i with
  | seed a => cases h; exact .respond _ _ (by decide)
  | u64 | u32 | i63 | i31 | int | f64 | f32 => exact drawCommand_notTurnedAway hs h
  | u64n | i63n | u32n | i31n | intn => exact boundedCommand_notTurnedAway hs h
  | norm | exp => exact sampleCommand_notTurnedAway hs h
  | zrom a => exact execZrom_notTurnedAway h
  | perm a => exact permWith_notTurnedAway hs h
  | shuf a => exact shufWith_notTurnedAway hs h
  | read a => exact readWith_notTurnedAway hs h
  | marshal a => exact marshalWith_notTurnedAway (a := a) hs h
  | unmarshal a => exact unmarshalWith_notTurnedAway h

end

/-! ## What an error leaves (R211, R213) -/

section

variable {par : Parameters} {i : Instr} {s t : State} {sent : List OutItem} {x : Response}

/-- Between two states an error changes no register and no scratch RAM, and takes at most the payload of an
`UNMARSHAL`. -/
structure UnchangedByError (i : Instr) (s t : State) : Prop where
  S_eq : t.S = s.S
  RDV_eq : t.RDV = s.RDV
  RDC_eq : t.RDC = s.RDC
  SEEDED_eq : t.SEEDED = s.SEEDED
  P_eq : t.P = s.P
  DIN_eq : t.DIN = s.DIN ∨ ∃ a, i = .unmarshal a ∧ t.DIN = s.DIN.drop a.toNat

/-- The last thing sent by a state that has just answered. -/
theorem State.respond_OUT_eq_append_iff {u : State} {st : Status} {r : Word} :
    (u.respond st r).OUT = sent ++ [.rsp x] ↔ u.OUT = sent ∧ ⟨st, r⟩ = x := by
  rw [respond_OUT, List.append_singleton_inj, OutItem.rsp.injEq]

/-- Of the effects a command can have, an answer that is no `OK` leaves only the two of an error. -/
theorem CommandEffect.of_error (h : CommandEffect par i s t) (hanswered : s.OUT.length < t.OUT.length)
    (hout : t.OUT = sent ++ [.rsp x]) (hx : x.st ≠ .ok) : sent = s.OUT ∧ x.r = 0#64 ∧ UnchangedByError i s t := by
  have hok {u : State} {r : Word} {p : Prop} (hu : (u.respond .ok r).OUT = sent ++ [.rsp x]) : p := by
    obtain ⟨-, rfl⟩ := State.respond_OUT_eq_append_iff.mp hu
    exact absurd rfl hx
  cases h with
  | error e =>
    obtain ⟨rfl, rfl⟩ := State.respond_OUT_eq_append_iff.mp hout
    exact ⟨rfl, rfl, rfl, rfl, rfl, rfl, rfl, .inl rfl⟩
  | unmarshalRefuses e =>
    obtain ⟨rfl, rfl⟩ := State.respond_OUT_eq_append_iff.mp hout
    exact ⟨rfl, rfl, rfl, rfl, rfl, rfl, rfl, .inr ⟨_, rfl, rfl⟩⟩
  | unmarshalWaits => exact absurd hanswered (lt_irrefl _)
  | draw _ e r => exact hok (u := s.setS e) hout
  | _ => exact hok hout

end

end Sys2Proof.Machine

namespace Sys2Proof.Proofs

open Sys2Proof Sys2Proof.Machine

/-- Settles O5: the opcode is in no row of the map (`ofOpcode_eq_none`), so the word does not decode. -/
theorem illegalOpcodeIsAnswered : Obligations.IllegalOpcodeIsAnswered := by
  intro s op a rest hcmd hop
  have hdecode : decode (op ++ a) = .error (.illegalCommand (CommandWord.op (op ++ a))) :=
    decode_of_illegal (by rw [CommandWord.op_append, CommandWord.operandBits_append, ofOpcode_eq_none hop])
  rw [step, performNext_of_illegal hcmd hdecode, State.afterError, hcmd]
  exact ⟨rfl, rfl⟩

/-- Settles O6: with no word to look at the state is answered as it stands. -/
theorem idleStepChangesNothing : Obligations.IdleStepChangesNothing :=
  fun _ h => performNext_idle h

/-- Settles O18: each bound, read as its command reads it, is not above 0 (`boundedCommand_of_nonpos`). -/
theorem boundsAtOrBelowZeroAreDomainErrors : Obligations.BoundsAtOrBelowZeroAreDomainErrors := by
  intro a s hs
  have hunsigned {n : Nat} (h : n = 0) : (n : Int) ≤ 0 := (congrArg Nat.cast h).le
  refine ⟨fun h => ?_, fun h => ⟨?_, ?_⟩, fun h => ?_, fun h => ?_, rfl⟩
  · exact boundedCommand_of_nonpos hs (hunsigned h) 64 _
  · exact boundedCommand_of_nonpos hs (signed64_nonpos h) 63 _
  · exact boundedCommand_of_nonpos hs (signed64_nonpos h) 63 _
  · exact boundedCommand_of_nonpos hs (hunsigned ((unsigned32_eq a).trans h)) 32 _
  · exact boundedCommand_of_nonpos hs (signed32_nonpos h) 31 _

/-- Settles O44: the sign of a size is checked first, then the capacity of the block (`permWith_of_large`). -/
theorem sizesOutOfRangeAreErrors : Obligations.SizesOutOfRangeAreErrors := by
  intro a s hs
  refine ⟨fun h => ⟨?_, ?_, ?_⟩, fun hcap h => ?_, fun par hcap h => permWith_of_large hs hcap h, rfl, rfl⟩
  · exact permWith_of_neg hs h defaultParameters
  · exact shufWith_of_neg hs h defaultParameters
  · exact readWith_of_neg hs h defaultParameters
  · exact permWith_of_large (par := defaultParameters) hs hcap h

/-- Settles O52: the seed check comes first (`execWith_unseeded`); behind it no command answers so
(`execWith_notTurnedAway`), and none clears the flag (O10). -/
theorem unseededCommandsAreTurnedAway : Obligations.UnseededCommandsAreTurnedAway := by
  refine ⟨fun i s hs hseed hunm hzrom => ⟨?_, rfl⟩, fun i s t hs h => ⟨?_, ?_⟩⟩
  · have hi : needsSeed i = true := by
      cases i with
      | seed a => exact absurd rfl (hseed a)
      | unmarshal a => exact absurd rfl (hunm a)
      | zrom a => exact absurd rfl (hzrom a)
      | _ => rfl
    rw [exec_eq_execWith]
    exact execWith_unseeded hs hi defaultParameters
  · exact (onlySeedAndUnmarshalWriteSeeded i s t h).1 hs
  · rw [exec_eq_execWith] at h
    exact (execWith_notTurnedAway hs h).out_ne

/-- Settles O54: of the effects of a command, only those of an error answer something else than `OK`
(`CommandEffect.of_error`). -/
theorem errorsChangeNothing : Obligations.ErrorsChangeNothing := by
  intro i s t sent x h hanswered hout hx
  obtain ⟨hsent, hr, hS, hRDV, hRDC, hseeded, hP, hDIN⟩ := (exec_effect h).of_error hanswered hout hx
  exact ⟨hsent, hr, hS, hRDV, hRDC, hseeded, hP, hDIN⟩

end Sys2Proof.Proofs
end

section
/-! The sampling of a deviate ends from every state of the default engine (R140, R238). The engine comes by a state from
which two words in a row are accepted at once, and a pass of step 1 draws one word or two, so it cannot pass both by. In the
tail of `NORM` pairs are drawn in step: a pair whose second uniform is 0 is accepted, and a zero word stands at the states
of either parity. -/

namespace Sys2Proof.Machine

/-! ## Loops that end -/

section

variable {α σ : Type} {body : σ → Iter α σ} {n : Nat} {s s' : σ}

/-- The loop ends after some number of iterations. -/
def Ends (body : σ → Iter α σ) (s : σ) : Prop := ∃ n, s ∈ endsWithin body n

theorem Ends.of_done {a : α} (h : body s = .done a s') : Ends body s :=
  ⟨1, mem_endsWithin_succ.mpr fun _ hb => by rw [h] at hb; cases hb⟩

theorem Ends.of_again (h : body s = .again s') (hs' : Ends body s') : Ends body s := by
  obtain ⟨n, hn⟩ := hs'
  refine ⟨n + 1, mem_endsWithin_succ.mpr fun t ht => ?_⟩
  rw [h] at ht
  cases ht
  exact hn

/-- Over a finite type of states the bound of the model is no cap (R238). -/
theorem Ends.loopBound [Finite σ] (hcard : Nat.card σ ≤ Config.loopBound) (h : Ends body s) :
    s ∈ endsWithin body Config.loopBound := by
  obtain ⟨n, hn⟩ := h
  rw [endsWithin_eq_of_card_le hcard]
  rcases le_total n (Nat.card σ) with hle | hge
  · exact endsWithin_mono body hle hn
  · rwa [endsWithin_eq_of_card_le hge] at hn

theorem Ends.exists_runLoop [Finite σ] (hcard : Nat.card σ ≤ Config.loopBound) (h : Ends body s) :
    ∃ a s', runLoop body Config.loopBound s = some (a, s') := by
  obtain ⟨⟨a, s'⟩, hr⟩ := Option.ne_none_iff_exists'.mp (h.loopBound hcard)
  exact ⟨a, s', hr⟩

theorem runLoop_eq_none_of_loopBound [Finite σ] (hcard : Nat.card σ ≤ Config.loopBound)
    (h : runLoop body Config.loopBound s = none) (n : Nat) : runLoop body n s = none :=
  not_not.mp fun hn => Ends.loopBound hcard ⟨n, hn⟩ h

end

theorem card_engine_le_loopBound : Nat.card Engine ≤ Config.loopBound := by
  rw [card_engine]
  decide

theorem card_normPhase_le_loopBound : Nat.card (NormPhase Engine) ≤ Config.loopBound := by
  rw [card_normPhase]
  decide

/-- A loop over the engine states whose passes draw two words when they reject cannot pass by two states in a row from which
it ends. -/
theorem Ends.of_two_in_a_row {α σ : Type} {body : σ → Iter α σ} {start : Engine → σ} {z : Engine}
    (hpass : ∀ e, Ends body (start e) ∨ body (start e) = .again (start (engineAfter e 2)))
    (h₀ : Ends body (start z)) (h₁ : Ends body (start (engineAfter z 1))) (e : Engine) : Ends body (start e) := by
  obtain ⟨k, -, hk⟩ := Proofs.engineIsASingleCycle e z
  induction k using Nat.twoStepInduction generalizing e with
  | zero => rwa [show e = z from hk]
  | one =>
    refine (hpass e).elim id fun hagain => .of_again hagain ?_
    have hnext : engineAfter e 2 = engineAfter z 1 := by rw [← hk, engineAfter_add]
    rwa [hnext]
  | more k ih _ =>
    refine (hpass e).elim id fun hagain => .of_again hagain (ih _ ?_)
    rw [engineAfter_add, Nat.add_comm, hk]

/-! ## A zero word at either parity -/

/-- The low bit of the state alternates: multiplier and increment are odd. -/
theorem advance_parity (e : Engine) : (advance e).toNat % 2 = (e.toNat + 1) % 2 := by
  have hmul : pcgMul.toNat = 0x2360ED051FC65DA44385DF649FCCF645 := rfl
  have hinc : pcgInc.toNat = 0x5851F42D4C957F2D14057B7EF767814F := rfl
  rw [advance_toNat, hmul, hinc]
  omega

theorem engineAfter_parity (e : Engine) (k : Nat) : (engineAfter e k).toNat % 2 = (e.toNat + k) % 2 := by
  induction k with
  | zero => rfl
  | succ k ih =>
    rw [engineAfter, advance_parity]
    omega

/-- Halves that are equal and short make the zero word, in an even state and in an odd one. -/
theorem exists_output_eq_zero_of_parity (p : Nat) : ∃ z : Engine, output z = 0#64 ∧ z.toNat % 2 = p % 2 := by
  rcases Nat.mod_two_eq_zero_or_one p with hp | hp
  · exact ⟨0#128, by decide, hp.symm ▸ rfl⟩
  · exact ⟨0x10000000000000001#128, by decide, hp.symm ▸ rfl⟩

/-- Among the second words of the pairs drawn from a state there is a zero word. -/
theorem exists_second_rawWord_eq_zero (e : Engine) : ∃ m, rawWord e (2 * m + 1) = 0#64 := by
  obtain ⟨z, hz, hparity⟩ := exists_output_eq_zero_of_parity e.toNat
  obtain ⟨k, -, hk⟩ := Proofs.engineIsASingleCycle (engineAfter e 2) z
  rw [engineAfter_add] at hk
  have heven : (2 + k) % 2 = 0 := by
    have := engineAfter_parity e (2 + k)
    rw [hk] at this
    omega
  refine ⟨k / 2, ?_⟩
  rw [rawWord, show 2 * (k / 2) + 1 + 1 = 2 + k by omega, hk, hz]

/-! ## The tail of `NORM` -/

/-- Nothing that is a number lies above infinity (R13). -/
theorem fle_inf {x : Word} (hx : f64IsNaN x = false) : fle x f64Inf = true := by
  have hmag : f64Mag x ≤ 2047 * 2 ^ 52 := not_lt.mp fun h => by rw [f64IsNaN_iff.mpr h] at hx; cases hx
  have hinf : f64Rank f64Inf = 2047 * 2 ^ 52 := by decide
  have hrank : f64Rank x ≤ f64Rank f64Inf := by
    rw [hinf, f64Rank_eq]
    split <;> omega
  have hnan : f64IsNaN f64Inf = false := by decide
  rw [fle, hx, hnan, decide_eq_true hrank]
  rfl

/-- A square is a NaN only if its root is one. -/
theorem f64IsNaN_fmul_self {x : Word} (hx : f64IsNaN x = false) : f64IsNaN (fmul x x) = false := by
  cases hinf : f64IsInf x with
  | false => exact f64IsNaN_fmul (f64IsFinite_of_not hx hinf) (f64IsFinite_of_not hx hinf)
  | true =>
    have hfin : f64IsFinite x = false := Bool.eq_false_iff.mpr fun h => by rw [f64IsInf_of_finite h] at hinf; cases hinf
    have hsquare : fmul x x = f64Pack (f64Sign x != f64Sign x) (2047 * 2 ^ 52) := by
      simp [fmul, hx, hinf, hfin]
    rw [hsquare, Bool.eq_false_iff, ne_eq, f64IsNaN_iff, f64Mag_pack _ (by decide)]
    exact lt_irrefl _

theorem Lawful.ln64_uniform_not_nan {fns : Transcendentals} (hl : Lawful fns) {σ : Type} (next : Source σ) (s : σ) :
    f64IsNaN (fns.ln64 (uniform01 next s).1) = false := by
  rcases hl.ln64_uniform next s with hinf | ⟨hfin, -⟩
  · rw [hinf]
    decide
  · exact f64IsNaN_of_finite hfin

section

variable {e : Engine} {neg : Bool}

/-- A pair whose second uniform is 0 is accepted: its `y` is infinite, and its `xt` is a number (R133). -/
theorem normPass_tail_of_zero (h : rawWord e 1 = 0#64) :
    ∃ r q, normPass defaultFunctions nextWord (.tail neg e) = .done r q := by
  have hy : fneg (ln64 (uniformOf (rawWord e 1))) = f64Inf := by
    have hln : ln64 0#64 = f64NegInf := Proofs.defaultFunctionsAreLawful.ln_zero
    have huniform : uniformOf 0#64 = 0#64 := by decide
    rw [h, huniform, hln]
    decide
  have hxt : f64IsNaN (fdiv (fneg (ln64 (uniformOf (rawWord e 0)))) constRN) = false := by
    have hln := Proofs.defaultFunctionsAreLawful.ln64_uniform_not_nan nextWord (engineAfter e 0)
    rw [uniform01_engineAfter] at hln
    exact f64IsNaN_fdiv ((f64IsNaN_fneg _).trans hln) (by decide) (by decide +kernel)
  have hinf : fadd f64Inf f64Inf = f64Inf := by decide
  have hpass := normPass_tail (e := e) (n := 0) (neg := neg) rfl hy.symm
  rw [hinf, fle_inf (f64IsNaN_fmul_self hxt), if_pos rfl] at hpass
  exact ⟨_, _, hpass⟩

/-- A pair that is rejected leads to the next pair (R133). -/
theorem normPass_tail_cases (neg : Bool) (e : Engine) :
    (∃ r q, normPass defaultFunctions nextWord (.tail neg e) = .done r q) ∨
      normPass defaultFunctions nextWord (.tail neg e) = .again (.tail neg (engineAfter e 2)) := by
  have hpass := normPass_tail (e := e) (n := 0) (neg := neg) rfl rfl
  split at hpass
  · exact .inl ⟨_, _, hpass⟩
  · exact .inr hpass

theorem normTail_ends (neg : Bool) (e : Engine) : Ends (normPass defaultFunctions nextWord) (.tail neg e) := by
  obtain ⟨m, hm⟩ := exists_second_rawWord_eq_zero e
  induction m generalizing e with
  | zero =>
    obtain ⟨r, q, hdone⟩ := normPass_tail_of_zero (neg := neg) hm
    exact .of_done hdone
  | succ m ih =>
    rcases normPass_tail_cases neg e with ⟨r, q, hdone⟩ | hagain
    · exact .of_done hdone
    · refine .of_again hagain (ih _ ?_)
      rwa [rawWord_engineAfter, ← Nat.add_assoc, Nat.add_comm 2]

/-! ## `NORM` -/

/-- Everything a pass of step 1 can do: take its word, end elsewhere, or begin again two words on (R130 to R134). -/
theorem normLayer_cases (e : Engine) :
    Ends (normPass defaultFunctions nextWord) (.layer e) ∨
      normPass defaultFunctions nextWord (.layer e) = .again (.layer (engineAfter e 2)) := by
  have hpass := normPass_layer (e := e) defaultFunctions rfl rfl rfl rfl
  rw [normWedgePass_engineAfter rfl rfl] at hpass
  split at hpass
  · exact .inl (.of_done hpass)
  · split at hpass
    · exact .inl (.of_again hpass (normTail_ends _ _))
    · split at hpass
      · exact .inl (.of_done hpass)
      · exact .inr hpass

/-- A word that meets the fast path ends the loop (R132). -/
theorem normLayer_ends_of_fast
    (h : (rawWord e 0).toNat % 2 ^ 63 / 2 ^ 8 < tableKN ((rawWord e 0).toNat % 2 ^ 8)) :
    Ends (normPass defaultFunctions nextWord) (.layer e) := by
  have hpass := normPass_layer (e := e) defaultFunctions rfl rfl rfl rfl
  rw [if_pos h] at hpass
  exact .of_done hpass

/-- The two words that follow the state 0 are accepted at once. -/
theorem normLayer_ends (e : Engine) : Ends (normPass defaultFunctions nextWord) (.layer e) :=
  .of_two_in_a_row (z := 0#128) normLayer_cases (normLayer_ends_of_fast (by decide +kernel))
    (normLayer_ends_of_fast (by decide +kernel)) e

/-! ## `EXP` -/

/-- Everything a pass of `EXP` can do: end, or begin again two words on (R135 to R139). -/
theorem expPass_cases (e : Engine) :
    Ends (expPass defaultFunctions nextWord) e ∨ expPass defaultFunctions nextWord e = .again (engineAfter e 2) := by
  have hpass := expPass_layer (e := e) defaultFunctions rfl rfl rfl
  rw [expTailPass_engineAfter, expWedgePass_engineAfter rfl rfl] at hpass
  split at hpass
  · exact .inl (.of_done hpass)
  · split at hpass
    · exact .inl (.of_done hpass)
    · split at hpass
      · exact .inl (.of_done hpass)
      · exact .inr hpass

theorem expPass_ends_of_fast (h : (rawWord e 0).toNat / 2 ^ 8 < tableKE ((rawWord e 0).toNat % 2 ^ 8)) :
    Ends (expPass defaultFunctions nextWord) e := by
  have hpass := expPass_layer (e := e) defaultFunctions rfl rfl rfl
  rw [if_pos h] at hpass
  exact .of_done hpass

theorem expPass_ends (e : Engine) : Ends (expPass defaultFunctions nextWord) e :=
  Ends.of_two_in_a_row (start := id) (z := 0#128) expPass_cases (expPass_ends_of_fast (by decide +kernel))
    (expPass_ends_of_fast (by decide +kernel)) e

end

end Sys2Proof.Machine

namespace Sys2Proof.Proofs

open Sys2Proof Sys2Proof.Machine

/-- Settles O21: over finitely many states whatever ends does so within as many iterations as there are states
(`endsWithin_eq_of_card_le`), and the bound is above their number. -/
theorem loopBoundIsNoCap : Obligations.LoopBoundIsNoCap := by
  have := finite_normPhase
  exact ⟨fun _ _ _ h => runLoop_eq_none_of_loopBound card_engine_le_loopBound h,
    fun _ _ _ h => runLoop_eq_none_of_loopBound card_normPhase_le_loopBound h⟩

/-- Settles O35: both loops end (`normLayer_ends`, `expPass_ends`), and the bound of the model is no cap. -/
theorem deviatesAreAlwaysAnswered : Obligations.DeviatesAreAlwaysAnswered := by
  intro a s hs
  refine ⟨?norm, ?exp⟩
  case norm =>
    have := finite_normPhase
    obtain ⟨r, p, hrun⟩ := (normLayer_ends s.S).exists_runLoop card_normPhase_le_loopBound
    exact ⟨_, _, exec_norm_of_normRun hs a hrun⟩
  case exp =>
    obtain ⟨r, e, hrun⟩ := (expPass_ends s.S).exists_runLoop card_engine_le_loopBound
    rw [exec_exp_seeded hs, expSample, hrun]
    exact ⟨e, r, rfl⟩

end Sys2Proof.Proofs
end

section
/-! The whole machine (R213, R230, R232, R238): every step of the default engine's block goes on, and no run shows what a
hardware reset left in the registers. -/

namespace Sys2Proof.Machine

/-! ## The commands go on -/

section

variable {s : State}

/-- A command that needs a seed goes on if it does once seeded: before, it is turned away (R206). -/
theorem exec_goes_on_of_seeded {i : Instr} (hi : needsSeed i = true)
    (h : s.SEEDED = true → ∃ t, exec i s = .next t) : ∃ t, exec i s = .next t := by
  cases hs : s.SEEDED with
  | false => exact ⟨_, (exec_eq_execWith i s).trans (execWith_unseeded hs hi defaultParameters)⟩
  | true => exact h hs

/-- A bound that is not positive is an error, and a positive one that fits its width is answered (R103, R108). -/
theorem DerivesFromOneWord.boundedCommand_goes_on {W : Nat} {f : Word → Nat} {draw : Engine → Nat × Engine}
    (hd : DerivesFromOneWord W f draw) (hs : s.SEEDED = true) {n : Int} (hn : n < 2 ^ W) :
    ∃ t, boundedCommand n W draw s = .next t := by
  rcases le_or_gt n 0 with hneg | hpos
  · exact ⟨_, boundedCommand_of_nonpos hs hneg W draw⟩
  · lift n to Nat using hpos.le
    obtain ⟨e, r, h, -⟩ := hd.boundedCommand_answers hs (by exact_mod_cast hpos) (by exact_mod_cast hn)
    exact ⟨_, h⟩

theorem exec_perm_goes_on (hs : s.SEEDED = true) (a : Word) : ∃ t, exec (.perm a) s = .next t := by
  obtain ⟨hneg, hlarge, -⟩ := Proofs.sizesOutOfRangeAreErrors a s hs
  rcases lt_or_ge a.toNat (2 ^ 63) with hlt | hge
  · rcases le_or_gt a.toNat 65536 with hfits | hcap
    · obtain ⟨_, _, _, -, -, h⟩ := Proofs.permEmitsAPermutation a s hs hfits
      exact ⟨_, h⟩
    · exact ⟨_, hlarge hcap hlt⟩
  · exact ⟨_, (hneg hge).1⟩

theorem exec_shuf_goes_on (hs : s.SEEDED = true) (a : Word) : ∃ t, exec (.shuf a) s = .next t := by
  obtain ⟨hneg, -⟩ := Proofs.sizesOutOfRangeAreErrors a s hs
  rcases lt_or_ge a.toNat (2 ^ 63) with hlt | hge
  · obtain ⟨_, _, -, -, h⟩ := Proofs.shufflePairsAreInRange a s hs hlt
    exact ⟨_, h⟩
  · exact ⟨_, (hneg hge).2.1⟩

theorem exec_read_goes_on (hs : s.SEEDED = true) (a : Word) : ∃ t, exec (.read a) s = .next t := by
  obtain ⟨hneg, -⟩ := Proofs.sizesOutOfRangeAreErrors a s hs
  rcases lt_or_ge a.toNat (2 ^ 63) with hlt | hge
  · exact ⟨_, exec_read_seeded hs hlt⟩
  · exact ⟨_, (hneg hge).2.2⟩

theorem exec_zrom_goes_on (a : Word) (s : State) : ∃ t, exec (.zrom a) s = .next t := by
  rw [exec_zrom, execZrom_eq]
  split
  · exact ⟨_, rfl⟩
  · exact ⟨_, rfl⟩

/-- `UNMARSHAL` waits, restores or refuses (R184, R241). -/
theorem exec_unmarshal_goes_on (a : Word) (s : State) : ∃ t, exec (.unmarshal a) s = .next t := by
  rcases lt_or_ge s.DIN.length a.toNat with hshort | hlong
  · exact ⟨s, Proofs.unmarshalWaitsForItsPayload a s hshort⟩
  · have hdin : s.DIN = s.DIN.take a.toNat ++ s.DIN.drop a.toNat := (List.take_append_drop _ _).symm
    have hlen : (s.DIN.take a.toNat).length = a.toNat := List.length_take_of_le hlong
    cases hx : parseSnapshot Config.snapVer (s.DIN.take a.toNat) with
    | some x => exact ⟨_, exec_unmarshal_accepts hdin hlen hx⟩
    | none => exact ⟨_, exec_unmarshal_refuses hdin hlen hx⟩

/-- Every command of the default engine's block goes on, from every state (R213, R238). -/
theorem exec_goes_on (i : Instr) (s : State) : ∃ t, exec i s = .next t := by
  cases i with
  | seed a => exact ⟨_, execSeed_eq a s⟩
  | u64 | u32 | i63 | i31 | int | f64 | f32 =>
    exact exec_goes_on_of_seeded rfl fun hs => ⟨_, drawCommand_seeded hs rfl⟩
  | u64n a =>
    exact exec_goes_on_of_seeded rfl fun hs => drawU64_derives.boundedCommand_goes_on hs (Int.ofNat_lt.mpr a.isLt)
  | i63n a => exact exec_goes_on_of_seeded rfl fun hs => drawI63_derives.boundedCommand_goes_on hs BitVec.toInt_lt
  | u32n a =>
    exact exec_goes_on_of_seeded rfl fun hs =>
      drawU32_derives.boundedCommand_goes_on hs (Int.ofNat_lt.mpr (BitVec.isLt (a.extractLsb' 0 32)))
  | i31n a => exact exec_goes_on_of_seeded rfl fun hs => drawI31_derives.boundedCommand_goes_on hs BitVec.toInt_lt
  | intn a => exact exec_goes_on_of_seeded rfl fun hs => drawI63_derives.boundedCommand_goes_on hs BitVec.toInt_lt
  | norm a =>
    refine exec_goes_on_of_seeded rfl fun hs => ?_
    obtain ⟨⟨e, r, h⟩, -⟩ := Proofs.deviatesAreAlwaysAnswered a s hs
    exact ⟨_, h⟩
  | exp a =>
    refine exec_goes_on_of_seeded rfl fun hs => ?_
    obtain ⟨-, e, r, h⟩ := Proofs.deviatesAreAlwaysAnswered a s hs
    exact ⟨_, h⟩
  | zrom a => exact exec_zrom_goes_on a s
  | perm a => exact exec_goes_on_of_seeded rfl fun hs => exec_perm_goes_on hs a
  | shuf a => exact exec_goes_on_of_seeded rfl fun hs => exec_shuf_goes_on hs a
  | read a => exact exec_goes_on_of_seeded rfl fun hs => exec_read_goes_on hs a
  | marshal a => exact exec_goes_on_of_seeded rfl fun hs => ⟨_, exec_marshal_seeded hs a⟩
  | unmarshal a => exact exec_unmarshal_goes_on a s

end

/-! ## A hardware reset -/

/-- What a reset leaves unspecified does not count while the block is not seeded (R32, R230). -/
theorem sameState_of_hardwareReset {s t : State} (hs : HardwareReset s) (ht : HardwareReset t) : SameState s t := by
  obtain ⟨_, _, _, _, rfl⟩ := hs
  obtain ⟨_, _, _, _, rfl⟩ := ht
  exact ⟨rfl, fun h => Bool.noConfusion h, rfl, rfl, rfl⟩

end Sys2Proof.Machine

namespace Sys2Proof.Proofs

open Sys2Proof Sys2Proof.Machine

/-- Settles O58: a step waits for a word, answers an illegal one, or performs a command, which goes on
(`exec_goes_on`). -/
theorem everyStepGoesOn : Obligations.EveryStepGoesOn := by
  intro s
  cases hcmd : s.CMD with
  | nil => exact ⟨s, performNext_idle hcmd⟩
  | cons w rest =>
    cases hw : decode w with
    | error e => exact ⟨_, performNext_of_illegal hcmd hw⟩
    | ok i =>
      rw [step, performNext_of_decode hcmd hw]
      exact exec_goes_on i s

/-- Settles O60: two states that a reset may leave are the same state (`sameState_of_hardwareReset`), and from the same
state every run has the same outcome (`SameState.perform`). -/
theorem resetValuesAreUnobservable : Obligations.ResetValuesAreUnobservable := by
  intro s t hs ht moves
  have hsame := sameState_of_hardwareReset hs ht
  refine ⟨?_, fun par => hsame.perform par moves⟩
  rw [perform_default, perform_default]
  exact hsame.perform defaultParameters moves

end Sys2Proof.Proofs
end
